-- ==== Sys2Proof/Word.lean ====
section
/-! DEFINITION. The widths of 00_scope.md R7: bytes, 32-bit words, 64-bit double words, and blocks of sixteen words. -/

namespace Sys2Proof

/-- One byte of the data address space. -/
abbrev Byte := BitVec 8

/-- WORD of 00_scope.md R7. -/
abbrev Word := BitVec 32

/-- A 64-bit quantity: a nonce, a counter, a length or a data address. -/
abbrev DWord := BitVec 64

/-- STATE_WORDS of 00_scope.md R7: a 4×4 grid, row-major (R14), of 0-based indices. -/
abbrev Block := Vector Word 16

/-- The low 32-bit half, `v[31:0]` (00_scope.md R10). -/
def DWord.lo (v : DWord) : Word := v.extractLsb' 0 32

/-- The high 32-bit half, `v[63:32]` (00_scope.md R10). -/
def DWord.hi (v : DWord) : Word := v.extractLsb' 32 32

/-- `{hi, lo}` (00_scope.md R10). -/
def DWord.ofHalves (hi lo : Word) : DWord := hi ++ lo

end Sys2Proof
end

