-- ==== Sys2Proof/Config.lean ====
section
/-! DEFINITION. What one instance of the block fixes (00_scope.md R7, R8), and the free values: the values the spec
leaves unspecified. -/

namespace Sys2Proof

/-- P_KEY_LAYOUT (00_scope.md R8; 40_state_builder.md R102). -/
inductive KeyLayout where
  | descending
  | ascending
  | standard
  deriving DecidableEq, Repr

/-- P_KS_BYTE_ORDER (00_scope.md R8; 20_memory.md R67). -/
inductive KsByteOrder where
  | little
  | big
  deriving DecidableEq, Repr

/-- The range of addresses `[base, base + size)`, in unbounded integers (20_memory.md R69). -/
structure Span where
  base : Nat
  size : Nat
  deriving DecidableEq, Repr

/-- The parameters of 00_scope.md R8, as plain data. P_MEM_FAULT is its extension: the addresses where a read, and
those where a write, of the engine faults (log entry 2). `sideEffects` is the memory that is not ordinary in the sense
of 20_memory.md R72 (log entry 9). -/
structure Params where
  keyLayout   : KeyLayout
  ksByteOrder : KsByteOrder
  addrWidth   : Nat
  regBase     : Nat
  readFaults  : List Span
  writeFaults : List Span
  sideEffects : List Span
  deriving DecidableEq, Repr

/-- The defaults of 00_scope.md R8. P_REG_BASE has none; 0 is a DESIGN CHOICE (log entry 3, safe). -/
def Params.default : Params where
  keyLayout := .descending
  ksByteOrder := .little
  addrWidth := 64
  regBase := 0
  readFaults := []
  writeFaults := []
  sideEffects := []

/-- N_VARIANTS (00_scope.md R7). -/
def nVariants : Nat := 4

namespace Config

/-- The n-th unspecified 32-bit value (93_implementation_defined.md U1 to U3, U7). A free value: nothing constrains
it (log entry 5). -/
opaque freeWord : Nat → Word

/-- The n-th unspecified byte (93_implementation_defined.md U6, U8). A free value (log entry 5). -/
opaque freeByte : Nat → Byte

/-- What the byte at a data address held before anything wrote it (70_reset_and_hazards.md R231: reset does not touch
the data address space). A free value for each address (log entry 6). -/
opaque powerOnByte : Nat → Byte

end Config

end Sys2Proof
end

