-- ==== Sys2Proof/Syntax.lean ====
section
/-! DEFINITION. The command set S20CORE-CMD v1 (00_scope.md R3; 30_encoding.md R82): one constructor per row of
spec/opcode_table.json. -/

namespace Sys2Proof

/-- A command. `var` is the VAR index of 30_encoding.md R83, an unsigned number. -/
inductive Instr where
  /-- 43_control.md R187. -/
  | nop
  /-- 40_state_builder.md R108. -/
  | buildState
  /-- 40_state_builder.md R112. -/
  | setCounter
  /-- 41_core_transform.md R133. -/
  | transform (var : Nat)
  /-- 42_streamer.md R150. -/
  | crypt (var : Nat)
  deriving DecidableEq, Repr

end Sys2Proof
end

