-- ==== Sys2Proof/WellFormed.lean ====
section
/-! DEFINITION. When a command is encodable, and when the parameters are legal. -/

namespace Sys2Proof

/-- VAR fits its 8-bit field (30_encoding.md R81, R83). Values 4 to 255 are encodable; their issue is rejected. -/
def Instr.wellFormed : Instr → Bool
  | .nop => true
  | .buildState => true
  | .setCounter => true
  | .transform var => decide (var < 256)
  | .crypt var => decide (var < 256)

/-- The legal values of 00_scope.md R8: P_ADDR_WIDTH is 1 to 64 and P_REG_BASE is aligned to 4096. -/
def Params.wellFormed (p : Params) : Bool :=
  decide (1 ≤ p.addrWidth) && decide (p.addrWidth ≤ 64) && decide (p.regBase % 4096 = 0)

end Sys2Proof
end

