-- ==== Sys2Proof/Decode.lean ====
section
/-! DEFINITION. Decoding a command word and encoding a command (30_encoding.md R80 to R88). -/

namespace Sys2Proof

/-- A command word laid out as 30_encoding.md R81 says, with RES0 and RES1 zero. -/
def commandWord (op : BitVec 4) (var : BitVec 8) : Word := 0#16 ++ var ++ 0#4 ++ op

/-- OP, bits [3:0] (30_encoding.md R81). -/
def opField (w : Word) : BitVec 4 := w.extractLsb' 0 4

/-- RES0, bits [7:4] (30_encoding.md R81). -/
def res0Field (w : Word) : BitVec 4 := w.extractLsb' 4 4

/-- VAR, bits [15:8] (30_encoding.md R81). -/
def varField (w : Word) : BitVec 8 := w.extractLsb' 8 8

/-- RES1, bits [31:16] (30_encoding.md R81). -/
def res1Field (w : Word) : BitVec 16 := w.extractLsb' 16 16

/-- `decode` of 30_encoding.md R86; `none` is its Illegal. -/
def decode (w : Word) : Option Instr :=
  if res0Field w ≠ 0 ∨ res1Field w ≠ 0 then none
  else
    match (opField w).toNat with
    | 0 => if varField w = 0 then some .nop else none
    | 1 => if varField w = 0 then some .buildState else none
    | 2 => if varField w = 0 then some .setCounter else none
    | 3 => some (.transform (varField w).toNat)
    | 4 => some (.crypt (varField w).toNat)
    | _ => none

/-- OP of a command (30_encoding.md R82). -/
def Instr.op : Instr → BitVec 4
  | .nop => 0
  | .buildState => 1
  | .setCounter => 2
  | .transform _ => 3
  | .crypt _ => 4

/-- VAR of a command; 0 where the command has none (30_encoding.md R81). -/
def Instr.var : Instr → BitVec 8
  | .nop => 0
  | .buildState => 0
  | .setCounter => 0
  | .transform var => BitVec.ofNat 8 var
  | .crypt var => BitVec.ofNat 8 var

/-- The command word of a command (30_encoding.md R81, R82, R88). -/
def encode (i : Instr) : Word := commandWord i.op i.var

/-- The number `w` of `nbits` bits as one command word; the bits above `nbits` are 0. -/
def tableWord (nbits w : Nat) : Word := BitVec.ofNat 32 (w % 2 ^ nbits)

/-- What the decoder reads from a row of spec/opcode_table.json. Every command word is 32 bits long
(30_encoding.md R80). -/
def decodeTableWord (nbits w : Nat) : Option Instr :=
  if nbits ≤ 32 then decode (tableWord nbits w) else none

end Sys2Proof
end

