-- ==== Sys2Proof/Machine/State.lean ====
section
/-! DEFINITION. The state of the block (10_state.md R20): the registers of the window, the engine's hidden state, the
data address space, the parameters of the instance, and the acts of the host still to come. -/

namespace Sys2Proof.Machine

/-- The engine phase (10_state.md R42). -/
inductive Phase where
  | idle
  | start
  | gen
  | xor
  deriving DecidableEq, Repr

/-- The error codes that are reported (60_exceptions.md R200). Codes 11 to 15 are never reported. -/
inductive ErrCode where
  | noError
  | keyLength
  | variant
  | opcode
  | busy
  | operandUnset
  | stateUnset
  | range
  | overlap
  | bus
  | register
  deriving DecidableEq, Repr

/-- The direction of a data access (20_memory.md R62, R63). -/
inductive Dir where
  | read
  | write
  deriving DecidableEq, Repr

/-- One act of the world outside the engine, or one turn given to the engine (43_control.md R188; log entry 1).
Register addresses are platform addresses, the window lying at P_REG_BASE (20_memory.md R60); `size` is the width of the
access in bytes (43_control.md R190). -/
inductive Event where
  /-- The engine takes its next step. -/
  | engine
  /-- The host reads a register. -/
  | busRead (addr size : Nat)
  /-- The host writes a register. -/
  | busWrite (addr size : Nat) (data : Word)
  /-- The host (or another agent outside the block) reads a byte of the data address space. -/
  | memRead (addr : Nat)
  /-- The host (or another agent outside the block) writes a byte of the data address space. -/
  | memWrite (addr : Nat) (v : Byte)
  /-- The reset input (70_reset_and_hazards.md R230). -/
  | reset
  deriving DecidableEq, Repr

/-- What the host's last read returned: the model's own record of it (log entry 15). -/
inductive Response where
  | nothing
  | word (v : Word)
  | byte (v : Byte)
  deriving DecidableEq, Repr

/-- The operand registers, offsets 0x040 to 0x084 (10_state.md R22 to R28). -/
structure Operands where
  key        : Vector Word 8
  nonceLo    : Word
  nonceHi    : Word
  counterLo  : Word
  counterHi  : Word
  mlenLo     : Word
  mlenHi     : Word
  msgAddrLo  : Word
  msgAddrHi  : Word
  ciphAddrLo : Word
  ciphAddrHi : Word
  deriving DecidableEq, Repr

/-- The data address space: the bytes written so far, by strictly rising address. An address that is not listed has no
recorded byte (20_memory.md R60; log entry 6). -/
abbrev Memory := List Host.Cell

/-- The state of one instance. `matrix` is S, `ks` is KS. BUSY, DONE, ERR and ERR_CODE are the fields of STATUS; CAPS is
computed from `cfg`. `unseen` holds the cipher ranges of the CRYPTs whose writes the host is not yet bound to see
(20_memory.md R73, R76; 70_reset_and_hazards.md R240; log entry 22). `inbox`, `response` and `draws` are the model's own
(log entries 1, 15, 5). -/
structure State where
  cfg       : Params
  ctrl      : Word
  busy      : Bool
  done      : Bool
  err       : Bool
  errCode   : ErrCode
  errInfo   : Word
  valid     : Word
  svalid    : Word
  faultAddr : DWord
  progress  : DWord
  operands  : Operands
  matrix    : Block
  ks        : Block
  phase     : Phase
  op        : BitVec 4
  var       : BitVec 8
  lMlen     : DWord
  lMsg      : DWord
  lCiph     : DWord
  ctr       : DWord
  mem       : Memory
  unseen    : List Span
  inbox     : List Event
  response  : Response
  draws     : Nat
  deriving DecidableEq, Repr

/-- The reasons the machine stops where the spec gives it no step. -/
inductive Fault where
  /-- Raised by a host access to the message or cipher range while a CRYPT is BUSY (20_memory.md R74). Safe: the spec
  gives such an access no value. -/
  | bufferRace
  /-- Raised by an engine step of a CRYPT whose ranges meet memory that is not ordinary, and by a host access to such
  memory (20_memory.md R72). Safe: the spec gives no step there. -/
  | notOrdinaryMemory
  /-- Raised by a data access at or above 2^P_ADDR_WIDTH (20_memory.md R60). Safe: the address does not exist. -/
  | noSuchAddress
  /-- Raised by an engine turn for which 43_control.md R185 gives no step: an opcode outside its table, or phase GEN or
  XOR under a command other than CRYPT. Safe, and not reachable from reset. -/
  | noEngineStep
  deriving DecidableEq, Repr

/-- The reasons the model gives no meaning. -/
inductive Refusal where
  /-- Raised by an arm of exec for a command that has no meaning yet. Safe. -/
  | notModelled (mnemonic : String)
  /-- Raised by a host register access that is not an aligned 32-bit access inside the window (43_control.md R190;
  93_implementation_defined.md X6). Safe: the spec does not define such an access. -/
  | accessForm
  deriving DecidableEq, Repr

/-- The operand registers after reset: the spec leaves their values unspecified (10_state.md R22). DESIGN CHOICE, unsafe:
all zero (log entry 4). -/
def Operands.reset : Operands where
  key := Vector.replicate 8 0
  nonceLo := 0
  nonceHi := 0
  counterLo := 0
  counterHi := 0
  mlenLo := 0
  mlenHi := 0
  msgAddrLo := 0
  msgAddrHi := 0
  ciphAddrLo := 0
  ciphAddrHi := 0

/-- The block right after reset (70_reset_and_hazards.md R231), with the default parameters of 00_scope.md R8. What R231
leaves unspecified takes the values of log entry 4. -/
def State.reset : State where
  cfg := Params.default
  ctrl := 0
  busy := false
  done := false
  err := false
  errCode := .noError
  errInfo := 0
  valid := 0
  svalid := 0
  faultAddr := 0
  progress := 0
  operands := Operands.reset
  matrix := Vector.replicate 16 0
  ks := Vector.replicate 16 0
  phase := .idle
  op := 0
  var := 0
  lMlen := 0
  lMsg := 0
  lCiph := 0
  ctr := 0
  mem := []
  unseen := []
  inbox := []
  response := .nothing
  draws := 0

end Sys2Proof.Machine
end

