-- ==== Sys2Proof/Machine/Operands.lean ====
section
/-! DEFINITION. The operands of the commands (30_encoding.md R84), the register map (10_state.md R22) and the buffer
ranges (20_memory.md R69). -/

namespace Sys2Proof

/-- Whether a data address lies in the range. -/
def Span.has (r : Span) (a : Nat) : Bool := decide (r.base ≤ a) && decide (a < r.base + r.size)

/-- Whether two ranges share at least one address (20_memory.md R70). -/
def Span.meets (r q : Span) : Bool :=
  decide (max r.base q.base < min (r.base + r.size) (q.base + q.size))

end Sys2Proof

namespace Sys2Proof.Machine

/-- The operand registers by name (10_state.md R22). -/
inductive OperandReg where
  | key (i : Fin 8)
  | nonceLo
  | nonceHi
  | counterLo
  | counterHi
  | mlenLo
  | mlenHi
  | msgAddrLo
  | msgAddrHi
  | ciphAddrLo
  | ciphAddrHi
  deriving DecidableEq, Repr

/-- The bit of VALID that marks a register as written (10_state.md R36). -/
def OperandReg.validBit : OperandReg → Nat
  | .key i => i.val
  | .nonceLo => 8
  | .nonceHi => 9
  | .counterLo => 10
  | .counterHi => 11
  | .mlenLo => 12
  | .mlenHi => 13
  | .msgAddrLo => 14
  | .msgAddrHi => 15
  | .ciphAddrLo => 16
  | .ciphAddrHi => 17

/-- The register whose offset is `0x040 + 4·k` (10_state.md R22). -/
def OperandReg.ofSlot (k : Nat) : Option OperandReg :=
  if h : k < 8 then some (.key ⟨k, h⟩)
  else
    match k with
    | 8 => some .nonceLo
    | 9 => some .nonceHi
    | 10 => some .counterLo
    | 11 => some .counterHi
    | 12 => some .mlenLo
    | 13 => some .mlenHi
    | 14 => some .msgAddrLo
    | 15 => some .msgAddrHi
    | 16 => some .ciphAddrLo
    | 17 => some .ciphAddrHi
    | _ => none

/-- The content of an operand register. -/
def Operands.get (o : Operands) : OperandReg → Word
  | .key i => o.key[i]
  | .nonceLo => o.nonceLo
  | .nonceHi => o.nonceHi
  | .counterLo => o.counterLo
  | .counterHi => o.counterHi
  | .mlenLo => o.mlenLo
  | .mlenHi => o.mlenHi
  | .msgAddrLo => o.msgAddrLo
  | .msgAddrHi => o.msgAddrHi
  | .ciphAddrLo => o.ciphAddrLo
  | .ciphAddrHi => o.ciphAddrHi

/-- The operand registers after a write to one of them. -/
def Operands.set (o : Operands) (r : OperandReg) (v : Word) : Operands :=
  match r with
  | .key i => { o with key := o.key.set i v }
  | .nonceLo => { o with nonceLo := v }
  | .nonceHi => { o with nonceHi := v }
  | .counterLo => { o with counterLo := v }
  | .counterHi => { o with counterHi := v }
  | .mlenLo => { o with mlenLo := v }
  | .mlenHi => { o with mlenHi := v }
  | .msgAddrLo => { o with msgAddrLo := v }
  | .msgAddrHi => { o with msgAddrHi := v }
  | .ciphAddrLo => { o with ciphAddrLo := v }
  | .ciphAddrHi => { o with ciphAddrHi := v }

/-- `nonce = {NONCE_HI, NONCE_LO}` (10_state.md R24). -/
def Operands.nonce (o : Operands) : DWord := DWord.ofHalves o.nonceHi o.nonceLo

/-- `counter = {COUNTER_HI, COUNTER_LO}` (10_state.md R25). -/
def Operands.counter (o : Operands) : DWord := DWord.ofHalves o.counterHi o.counterLo

/-- `mlen = {MLEN_HI, MLEN_LO}` (10_state.md R26). -/
def Operands.mlen (o : Operands) : DWord := DWord.ofHalves o.mlenHi o.mlenLo

/-- `msg = {MSG_ADDR_HI, MSG_ADDR_LO}` (10_state.md R27). -/
def Operands.msg (o : Operands) : DWord := DWord.ofHalves o.msgAddrHi o.msgAddrLo

/-- `ciph = {CIPH_ADDR_HI, CIPH_ADDR_LO}` (10_state.md R28). -/
def Operands.ciph (o : Operands) : DWord := DWord.ofHalves o.ciphAddrHi o.ciphAddrLo

/-- What an offset of the register window selects (10_state.md R22). -/
inductive Reg where
  | ctrl
  | status
  | errInfo
  | caps
  | valid
  | svalid
  | faultAddrLo
  | faultAddrHi
  | progressLo
  | progressHi
  | operand (r : OperandReg)
  | state (i : Fin 16)
  | ks (i : Fin 16)
  | reserved
  deriving DecidableEq, Repr

/-- The register at the aligned offset `off`, by bits off[11:2] (10_state.md R22; 30_encoding.md R90). -/
def regOf (off : Nat) : Reg :=
  match off / 4 with
  | 0 => .ctrl
  | 1 => .status
  | 2 => .errInfo
  | 3 => .caps
  | 4 => .valid
  | 5 => .svalid
  | 6 => .faultAddrLo
  | 7 => .faultAddrHi
  | 8 => .progressLo
  | 9 => .progressHi
  | k =>
    if k < 0x10 then .reserved
    else if k < 0x30 then ((OperandReg.ofSlot (k - 0x10)).map Reg.operand).getD .reserved
    else if k < 0x40 then .state (Fin.ofNat 16 (k - 0x30))
    else if k < 0x50 then .ks (Fin.ofNat 16 (k - 0x40))
    else .reserved

/-- The offset that a host access at a platform address names, if the access is an aligned 32-bit access inside the
window (20_memory.md R60; 43_control.md R190). -/
def windowOffset (p : Params) (addr size : Nat) : Option Nat :=
  if size = 4 ∧ p.regBase ≤ addr ∧ addr - p.regBase < 0x1000 ∧ (addr - p.regBase) % 4 = 0 then
    some (addr - p.regBase)
  else none

/-- The message range M of 20_memory.md R69. -/
def messageRange (msg mlen : DWord) : Span := ⟨msg.toNat, mlen.toNat⟩

/-- The cipher range C of 20_memory.md R69. -/
def cipherRange (ciph mlen : DWord) : Span := ⟨ciph.toNat, mlen.toNat⟩

/-- M of the running CRYPT. -/
def State.msgRange (s : State) : Span := messageRange s.lMsg s.lMlen

/-- C of the running CRYPT. -/
def State.ciphRange (s : State) : Span := cipherRange s.lCiph s.lMlen

/-- Whether the data address exists (20_memory.md R60, R62). -/
def inSpace (p : Params) (a : Nat) : Bool := decide (a < 2 ^ p.addrWidth)

/-- P_MEM_FAULT (00_scope.md R8): whether the platform faults an engine access at the address. -/
def memFault (p : Params) (d : Dir) (a : Nat) : Bool :=
  match d with
  | .read => p.readFaults.any (Span.has · a)
  | .write => p.writeFaults.any (Span.has · a)

/-- Whether the byte at the address is ordinary memory (20_memory.md R72). -/
def ordinary (p : Params) (a : Nat) : Bool := !p.sideEffects.any (Span.has · a)

/-- Whether every byte of the range is ordinary memory (20_memory.md R72). -/
def rangeOrdinary (p : Params) (r : Span) : Bool := !p.sideEffects.any (Span.meets · r)

/-- Keystream byte j of a block (20_memory.md R67). -/
def ksbyte (order : KsByteOrder) (ks : Block) (j : Nat) : Byte :=
  let w := ks[Fin.ofNat 16 (j / 4)]
  match order with
  | .little => w.extractLsb' (8 * (j % 4)) 8
  | .big => w.extractLsb' (8 * (3 - j % 4)) 8

end Sys2Proof.Machine
end

