-- ==== Sys2Proof/Machine/Flags.lean ====
section
/-! DEFINITION. The status and validity registers as the host reads them (10_state.md R33, R35 to R37), and the checks
that a command makes at its issue (60_exceptions.md R203). The block has no arithmetic flags (10_state.md R44). -/

namespace Sys2Proof.Machine

/-- The code of an error (60_exceptions.md R200). -/
def ErrCode.code : ErrCode → BitVec 4
  | .noError => 0
  | .keyLength => 1
  | .variant => 2
  | .opcode => 3
  | .busy => 4
  | .operandUnset => 5
  | .stateUnset => 6
  | .range => 7
  | .overlap => 8
  | .bus => 9
  | .register => 10

/-- STATUS as the host reads it (10_state.md R33). -/
def State.statusWord (s : State) : Word :=
  0#20 ++ s.errCode.code ++ 0#5 ++ BitVec.ofBool s.err ++ BitVec.ofBool s.done ++ BitVec.ofBool s.busy

/-- CAPS.KEY_LAYOUT (10_state.md R35). -/
def layoutCode : KeyLayout → BitVec 2
  | .descending => 0
  | .ascending => 1
  | .standard => 2

/-- CAPS.KS_BYTE_ORDER (10_state.md R35). -/
def byteOrderCode : KsByteOrder → BitVec 1
  | .little => 0
  | .big => 1

/-- CAPS as the host reads it (10_state.md R35). -/
def capsWord (p : Params) : Word :=
  0#13 ++ BitVec.ofNat 7 p.addrWidth ++ 0#1 ++ byteOrderCode p.ksByteOrder ++ layoutCode p.keyLayout
    ++ BitVec.ofNat 8 nVariants

/-- The word with bit k set and every other bit as before. -/
def setBit (w : Word) (k : Nat) : Word := w ||| BitVec.twoPow 32 k

/-- The position of KS_V in VALID (10_state.md R36). -/
def ksValidBit : Nat := 18

/-- SVALID with every state word valid. -/
def allStateValid : Word := 0x0000FFFF

/-- A check at issue: the code and the detail of the report it makes on failure (60_exceptions.md R203). -/
abbrev Check := Option (ErrCode × Word)

/-- Check 3 of 60_exceptions.md R203: VAR < N_VARIANTS. -/
def variantCheck (var : Nat) : Check :=
  if var < nVariants then none else some (.variant, BitVec.ofNat 32 var)

/-- Check 4 of 60_exceptions.md R203: VALID[7:0] = 0xFF; the detail is the missing key words. -/
def keyCheck (s : State) : Check :=
  if s.valid &&& 0xFF = 0xFF then none else some (.keyLength, ~~~s.valid &&& 0xFF)

/-- Check 5 of 60_exceptions.md R203: `required & ~VALID = 0`. -/
def operandCheck (required : Word) (s : State) : Check :=
  if required &&& ~~~s.valid = 0 then none else some (.operandUnset, required &&& ~~~s.valid)

/-- Check 6 of 60_exceptions.md R203: SVALID = 0xFFFF. -/
def stateCheck (s : State) : Check :=
  if s.svalid = allStateValid then none else some (.stateUnset, ~~~s.svalid &&& 0xFFFF)

/-- Check 7 of 60_exceptions.md R203: no buffer passes the top of the data address space (20_memory.md R71). -/
def rangeCheck (s : State) : Check :=
  let top := 2 ^ s.cfg.addrWidth
  let msgOut := decide (top < s.operands.msg.toNat + s.operands.mlen.toNat)
  let ciphOut := decide (top < s.operands.ciph.toNat + s.operands.mlen.toNat)
  if msgOut || ciphOut then
    some (.range, 0#30 ++ BitVec.ofBool ciphOut ++ BitVec.ofBool msgOut)
  else none

/-- Check 8 of 60_exceptions.md R203: buffers that are not the same share no byte (20_memory.md R70). -/
def overlapCheck (s : State) : Check :=
  if s.operands.msg ≠ s.operands.ciph ∧
      (messageRange s.operands.msg s.operands.mlen).meets (cipherRange s.operands.ciph s.operands.mlen) = true then
    some (.overlap, 0)
  else none

/-- The first failing check of a list (60_exceptions.md R204). -/
def firstFailure : List Check → Check
  | [] => none
  | some e :: _ => some e
  | none :: rest => firstFailure rest

end Sys2Proof.Machine
end

