-- ==== Sys2Proof/Machine/Ops.lean ====
section
/-! DEFINITION. The operations that the meanings share: the bytes of the data address space, the error report (the
block's "trap entry", 60_exceptions.md R206) and its clearing, accept and finish, the writes of registers and the two
ways a CRYPT can be cut short. -/

namespace Sys2Proof.Machine

/-! ### The data address space (20_memory.md R62, R63) -/

/-- The recorded byte at an address, if something wrote it. -/
def Memory.read : Memory → Nat → Option Byte
  | [], _ => none
  | (b, v) :: m, a => if a = b then some v else Memory.read m a

/-- The byte at an address: the recorded one, else what the memory held at power-on (log entry 6). -/
def Memory.byteAt (m : Memory) (a : Nat) : Byte := (m.read a).getD (Config.powerOnByte a)

/-- A one-byte write, which keeps the addresses strictly rising. -/
def Memory.write : Memory → Nat → Byte → Memory
  | [], a, v => [(a, v)]
  | (b, w) :: m, a, v =>
    if a < b then (a, v) :: (b, w) :: m
    else if a = b then (a, v) :: m
    else (b, w) :: Memory.write m a v

/-- The canonical form: strictly rising addresses. -/
def Memory.wf : Memory → Bool
  | [] => true
  | [_] => true
  | (a, _) :: (b, w) :: m => decide (a < b) && Memory.wf ((b, w) :: m)

/-- Every recorded address is below `top`. -/
def Memory.below (m : Memory) (top : Nat) : Bool := m.all fun c => decide (c.1 < top)

/-- `n` bytes from `base` on take the free values `k`, `k + 1`, … (93_implementation_defined.md U6, U8). -/
def Memory.scramble (m : Memory) (base : Nat) : Nat → Nat → Memory
  | 0, _ => m
  | n + 1, k => Memory.scramble (m.write base (Config.freeByte k)) (base + 1) n (k + 1)

/-- Sixteen free words (93_implementation_defined.md U7). -/
def freeBlock (k : Nat) : Block := Vector.ofFn fun i => Config.freeWord (k + i.val)

/-! ### Reports, accept and finish -/

/-- `report(k, d)` of 60_exceptions.md R206, for every code but BUS. A rejected issue or write changes nothing else. -/
def State.report (s : State) (k : ErrCode) (d : Word) : State :=
  { s with err := true, errCode := k, errInfo := d }

/-- `report(9, d)` of 60_exceptions.md R206, with the faulting address. -/
def State.reportBus (s : State) (d : Dir) (addr : Nat) : State :=
  { s.report .bus (match d with | .read => 0 | .write => 1) with faultAddr := BitVec.ofNat 64 addr }

/-- Clearing the report ("trap return", 60_exceptions.md R207). -/
def State.clearReport (s : State) : State :=
  { s with err := false, errCode := .noError, errInfo := 0, faultAddr := 0 }

/-- Accept of the command word w (43_control.md R183). -/
def State.accept (s : State) (w : Word) : State :=
  { s.clearReport with
    ctrl := w
    op := opField w
    var := varField w
    busy := true
    done := false
    phase := .start }

/-- The further latches of the accept of CRYPT (43_control.md R184). -/
def State.latchCrypt (s : State) : State :=
  { s with
    lMlen := s.operands.mlen
    lMsg := s.operands.msg
    lCiph := s.operands.ciph
    progress := 0 }

/-- `finish` (43_control.md R186). -/
def State.finish (s : State) : State := { s with busy := false, done := true, phase := .idle }

/-- `issue(w)` of 43_control.md R180, after its checks of BUSY and of decode: report the first failing check, else
accept; `latch` is what the accept of this command does beside R183. -/
def State.issue (s : State) (w : Word) (checks : List Check) (latch : State → State) : State :=
  match firstFailure checks with
  | some (k, d) => s.report k d
  | none => latch (s.accept w)

/-! ### Register writes -/

/-- A host write to an operand register (43_control.md R192). -/
def State.writeOperand (s : State) (r : OperandReg) (v : Word) : State :=
  { s with operands := s.operands.set r v, valid := setBit s.valid r.validBit }

/-- A host write to STATEi (43_control.md R193). -/
def State.writeStateWord (s : State) (i : Fin 16) (v : Word) : State :=
  { s with matrix := s.matrix.set i v, svalid := setBit s.svalid i.val }

/-- The whole of S is written (10_state.md R29, R37). -/
def State.setMatrix (s : State) (b : Block) : State := { s with matrix := b, svalid := allStateValid }

/-- KS is written (10_state.md R31). -/
def State.setKs (s : State) (b : Block) : State := { s with ks := b, valid := setBit s.valid ksValidBit }

/-! ### Host reads (43_control.md R191) -/

/-- A read returns `v`. -/
def State.answer (s : State) (v : Word) : State := { s with response := .word v }

/-- A read returns an unspecified value (10_state.md R45, R46): the next free value. -/
def State.answerFree (s : State) : State :=
  { s with response := .word (Config.freeWord s.draws), draws := s.draws + 1 }

/-! ### What the host sees of the data address space (20_memory.md R73, R76; 70_reset_and_hazards.md R240) -/

/-- Whether a CRYPT may have written the byte since the last host read of STATUS that returned BUSY = 0. -/
def State.isUnseen (s : State) (a : Nat) : Bool :=
  s.unseen.any (Span.has · a)

/-- The host's read of STATUS has returned BUSY = 0: the host sees every engine write so far (20_memory.md R73). -/
def State.synchronise (s : State) : State := { s with unseen := [] }

/-- A read of a byte returns `v`. -/
def State.answerByte (s : State) (v : Byte) : State := { s with response := .byte v }

/-- A read of a byte returns an unspecified value: the next free value. -/
def State.answerFreeByte (s : State) : State :=
  { s with response := .byte (Config.freeByte s.draws), draws := s.draws + 1 }

/-! ### Cutting a CRYPT short -/

/-- The cipher bytes from offset i on become unspecified (42_streamer.md R168; 70_reset_and_hazards.md R232). -/
def State.loseCipherFrom (s : State) (i : Nat) : State :=
  { s with
    mem := s.mem.scramble (s.lCiph.toNat + i) (s.lMlen.toNat - i) s.draws
    draws := s.draws + (s.lMlen.toNat - i) }

/-- S, KS and CTR become unspecified, and their valid bits are cleared (42_streamer.md R168). -/
def State.loseBlocks (s : State) : State :=
  { s with
    matrix := freeBlock s.draws
    ks := freeBlock (s.draws + 16)
    ctr := DWord.ofHalves (Config.freeWord (s.draws + 32)) (Config.freeWord (s.draws + 33))
    svalid := 0
    valid := s.valid &&& ~~~(BitVec.twoPow 32 ksValidBit)
    draws := s.draws + 34 }

/-- The bus-fault abort of the byte step for the offset `progress` (42_streamer.md R168). -/
def State.busAbort (s : State) (d : Dir) (addr : Nat) : State :=
  (((s.loseCipherFrom s.progress.toNat).loseBlocks).reportBus d addr).finish

/-- Whether the running command is a CRYPT. -/
def State.cryptBusy (s : State) : Bool := s.busy && decide (s.op = 4)

/-- The reset input (70_reset_and_hazards.md R230 to R232). The parameters, the data address space (but for the cipher
range of a running CRYPT), the ranges that the host is not yet bound to see, the events to come and the model's own records stay. -/
def State.applyReset (s : State) : State :=
  let t := if s.cryptBusy then s.loseCipherFrom 0 else s
  { State.reset with
    cfg := t.cfg
    mem := t.mem
    unseen := t.unseen
    inbox := t.inbox
    response := t.response
    draws := t.draws }

end Sys2Proof.Machine
end

