-- ==== Sys2Proof/Machine/Control.lean ====
section
/-! DEFINITION. NOP, and which command the engine is running (43_control.md R185, R187).

A meaning `exec<Command> s` is one atomic step of its command: in an idle block its issue (R180), otherwise the engine's
next step of it (R185; log entry 7). -/

namespace Sys2Proof.Machine

/-- The command that the hidden registers op and var name; `none` where 43_control.md R185 has no row. -/
def commandOf (op : BitVec 4) (var : BitVec 8) : Option Instr :=
  match op.toNat with
  | 0 => some .nop
  | 1 => some .buildState
  | 2 => some .setCounter
  | 3 => some (.transform var.toNat)
  | 4 => some (.crypt var.toNat)
  | _ => none

/-- NOP (43_control.md R187). -/
def execNop (s : State) : Host.Outcome State Fault Refusal :=
  match s.phase with
  | .idle => .next (s.issue (encode .nop) [] id)
  | .start => .next s.finish
  | .gen => .fault .noEngineStep
  | .xor => .fault .noEngineStep

end Sys2Proof.Machine
end

