-- ==== Sys2Proof/Machine/CoreTransform.lean ====
section
/-! DEFINITION. The core transform and TRANSFORM (41_core_transform.md). -/

namespace Sys2Proof.Machine

/-- `rotl32(x, n)`, for 0 < n < 32 (00_scope.md R11). -/
def rotl32 (x : Word) (n : Nat) : Word := (x <<< n) ||| (x >>> (32 - n))

/-- `quarterround(a, b, c, d)` (41_core_transform.md R122). -/
def quarterround (a b c d : Word) : Word × Word × Word × Word :=
  let b := b ^^^ rotl32 (a + d) 7
  let c := c ^^^ rotl32 (a + b) 9
  let d := d ^^^ rotl32 (c + b) 13
  let a := a ^^^ rotl32 (d + c) 18
  (a, b, c, d)

/-- The quarter-round of four cells of a block; the four cells are distinct in every use. -/
def quarterAt (s : Block) (p0 p1 p2 p3 : Fin 16) : Block :=
  let q := quarterround s[p0] s[p1] s[p2] s[p3]
  (((s.set p0 q.1).set p1 q.2.1).set p2 q.2.2.1).set p3 q.2.2.2

/-- The k-th cell of column group j (41_core_transform.md R124). -/
def columnCell (j k : Fin 4) : Fin 16 := ⟨4 * ((j.val + k.val) % 4) + j.val, by omega⟩

/-- The k-th cell of row group i (41_core_transform.md R126). -/
def rowCell (i k : Fin 4) : Fin 16 := ⟨4 * i.val + (i.val + k.val) % 4, by omega⟩

/-- The quarter-round of column group j. -/
def columnQuarter (s : Block) (j : Fin 4) : Block :=
  quarterAt s (columnCell j 0) (columnCell j 1) (columnCell j 2) (columnCell j 3)

/-- The quarter-round of row group i. -/
def rowQuarter (s : Block) (i : Fin 4) : Block :=
  quarterAt s (rowCell i 0) (rowCell i 1) (rowCell i 2) (rowCell i 3)

/-- `columnround(s)` (41_core_transform.md R125). -/
def columnround (s : Block) : Block := [0, 1, 2, 3].foldl columnQuarter s

/-- `rowround(s)` (41_core_transform.md R127). -/
def rowround (s : Block) : Block := [0, 1, 2, 3].foldl rowQuarter s

/-- `doubleround(s)` (41_core_transform.md R130). -/
def doubleround (s : Block) : Block := rowround (columnround s)

/-- `n` double rounds. -/
def doublerounds : Nat → Block → Block
  | 0, x => x
  | n + 1, x => doublerounds n (doubleround x)

/-- `core(input)`: ten double rounds and the feed-forward (41_core_transform.md R130). -/
def salsaCore (input : Block) : Block := Vector.zipWith (· + ·) (doublerounds 10 input) input

/-- The transpose T of 41_core_transform.md R126, which takes the cell 4r + c to the cell 4c + r. -/
def transpose (s : Block) : Block :=
  Vector.ofFn fun i => s[(⟨4 * (i.val % 4) + i.val / 4, by omega⟩ : Fin 16)]

/-- `n` column rounds, each followed by a transpose (41_core_transform.md R131). -/
def transposedRounds : Nat → Block → Block
  | 0, x => x
  | n + 1, x => transposedRounds n (transpose (columnround x))

/-- `salsaCoreT(input)`, the transpose form (41_core_transform.md R131). -/
def salsaCoreT (input : Block) : Block := Vector.zipWith (· + ·) (transposedRounds 20 input) input

/-- The START step of TRANSFORM (41_core_transform.md R133). No variant changes it (R136). -/
def State.transformStep (s : State) : State := (s.setKs (salsaCore s.matrix)).finish

/-- The checks at the issue of TRANSFORM (41_core_transform.md R133). -/
def transformChecks (var : Nat) (s : State) : List Check := [variantCheck var, stateCheck s]

/-- TRANSFORM (41_core_transform.md R133). -/
def execTransform (var : Nat) (s : State) : Host.Outcome State Fault Refusal :=
  match s.phase with
  | .idle => .next (s.issue (encode (.transform var)) (transformChecks var s) id)
  | .start => .next s.transformStep
  | .gen => .fault .noEngineStep
  | .xor => .fault .noEngineStep

end Sys2Proof.Machine
end

