-- ==== Sys2Proof/Machine/StateBuilder.lean ====
section
/-! DEFINITION. The state builder: the layout of S, BUILD_STATE and SET_COUNTER (40_state_builder.md). -/

namespace Sys2Proof.Machine

/-- SIGMA0 (40_state_builder.md R100). -/
def sigma0 : Word := 0x61707865

/-- SIGMA1 (40_state_builder.md R100). -/
def sigma1 : Word := 0x3320646e

/-- SIGMA2 (40_state_builder.md R100). -/
def sigma2 : Word := 0x79622d32

/-- SIGMA3 (40_state_builder.md R100). -/
def sigma3 : Word := 0x6b206574

/-- `kp(p)`: the key word in cell p (40_state_builder.md R102). Only cells 1 to 4 and 11 to 14 are key cells. -/
def keyIndex (l : KeyLayout) (p : Nat) : Fin 8 :=
  match l with
  | .descending =>
    match p with
    | 1 => 7 | 2 => 6 | 3 => 5 | 4 => 4 | 11 => 3 | 12 => 2 | 13 => 1 | _ => 0
  | .ascending =>
    match p with
    | 1 => 4 | 2 => 5 | 3 => 6 | 4 => 7 | 11 => 0 | 12 => 1 | 13 => 2 | _ => 3
  | .standard =>
    match p with
    | 1 => 0 | 2 => 1 | 3 => 2 | 4 => 3 | 11 => 4 | 12 => 5 | 13 => 6 | _ => 7

/-- `build(key, nonce, counter)` (40_state_builder.md R101). -/
def build (l : KeyLayout) (key : Vector Word 8) (nonce counter : DWord) : Block :=
  #v[sigma0, key[keyIndex l 1], key[keyIndex l 2], key[keyIndex l 3],
     key[keyIndex l 4], sigma1, nonce.lo, nonce.hi,
     counter.lo, counter.hi, sigma2, key[keyIndex l 11],
     key[keyIndex l 12], key[keyIndex l 13], key[keyIndex l 14], sigma3]

/-- `setctr(s, counter)` (40_state_builder.md R106). -/
def setctr (b : Block) (counter : DWord) : Block := (b.set 8 counter.lo).set 9 counter.hi

/-- The START step of BUILD_STATE (40_state_builder.md R108). -/
def State.buildStep (s : State) : State :=
  (s.setMatrix (build s.cfg.keyLayout s.operands.key s.operands.nonce s.operands.counter)).finish

/-- The START step of SET_COUNTER (40_state_builder.md R112). -/
def State.setCounterStep (s : State) : State :=
  State.finish
    { s with
      matrix := setctr s.matrix s.operands.counter
      svalid := setBit (setBit s.svalid 8) 9 }

/-- The checks at the issue of BUILD_STATE (40_state_builder.md R108). -/
def buildStateChecks (s : State) : List Check := [keyCheck s, operandCheck 0x00000F00 s]

/-- The check at the issue of SET_COUNTER (40_state_builder.md R112). -/
def setCounterChecks (s : State) : List Check := [operandCheck 0x00000C00 s]

/-- BUILD_STATE (40_state_builder.md R108). -/
def execBuildState (s : State) : Host.Outcome State Fault Refusal :=
  match s.phase with
  | .idle => .next (s.issue (encode .buildState) (buildStateChecks s) id)
  | .start => .next s.buildStep
  | .gen => .fault .noEngineStep
  | .xor => .fault .noEngineStep

/-- SET_COUNTER (40_state_builder.md R112). -/
def execSetCounter (s : State) : Host.Outcome State Fault Refusal :=
  match s.phase with
  | .idle => .next (s.issue (encode .setCounter) (setCounterChecks s) id)
  | .start => .next s.setCounterStep
  | .gen => .fault .noEngineStep
  | .xor => .fault .noEngineStep

end Sys2Proof.Machine
end

