-- ==== Sys2Proof/Machine/Streamer.lean ====
section
/-! DEFINITION. The keystream XOR streamer: CRYPT (42_streamer.md). -/

namespace Sys2Proof.Machine

/-- The setup step (42_streamer.md R152). From here on the CRYPT writes its cipher range, which the host is not bound to see
before its next read of STATUS that returns BUSY = 0 (70_reset_and_hazards.md R240; log entry 22). -/
def State.setupStep (s : State) : State :=
  let t := { s.setMatrix (build s.cfg.keyLayout s.operands.key s.operands.nonce 0) with ctr := 0 }
  if s.lMlen = 0 then t.finish else { t with unseen := s.ciphRange :: s.unseen, phase := .gen }

/-- The block-generation step (42_streamer.md R155). -/
def State.genStep (s : State) : State := { s.setKs (salsaCore s.matrix) with phase := .xor }

/-- The end of a block: the counter, its cells of S, and what comes next (42_streamer.md R158, R160). -/
def State.endBlock (s : State) : State :=
  let t := { s with ctr := s.ctr + 1, matrix := setctr s.matrix (s.ctr + 1) }
  if s.progress = s.lMlen then t.finish else { t with phase := .gen }

/-- The byte step without a bus fault (42_streamer.md R157): `rd` and `wr` are the addresses of the message byte and of
the cipher byte at the offset `progress`. -/
def State.cipherByte (s : State) (rd wr : Nat) : State :=
  let i := s.progress.toNat
  let t := { s with
    mem := s.mem.write wr (s.mem.byteAt rd ^^^ ksbyte s.cfg.ksByteOrder s.ks (i % 64))
    progress := s.progress + 1 }
  if (i + 1) % 64 = 0 ∨ t.progress = s.lMlen then t.endBlock else { t with phase := .xor }

/-- The address of the message byte of the byte step (42_streamer.md R157). -/
def State.readAddr (s : State) : Nat := s.lMsg.toNat + s.progress.toNat

/-- The address of the cipher byte of the byte step (42_streamer.md R157). -/
def State.writeAddr (s : State) : Nat := s.lCiph.toNat + s.progress.toNat

/-- The byte step (42_streamer.md R157, R168). The message byte is read before the cipher byte is written. -/
def State.byteStep (s : State) : Host.Outcome State Fault Refusal :=
  if !(inSpace s.cfg s.readAddr && inSpace s.cfg s.writeAddr) then .fault .noSuchAddress
  else if memFault s.cfg .read s.readAddr then .next (s.busAbort .read s.readAddr)
  else if memFault s.cfg .write s.writeAddr then .next (s.busAbort .write s.writeAddr)
  else .next (s.cipherByte s.readAddr s.writeAddr)

/-- Whether M and C of the running CRYPT are ordinary memory (20_memory.md R72). -/
def State.buffersOrdinary (s : State) : Bool :=
  rangeOrdinary s.cfg s.msgRange && rangeOrdinary s.cfg s.ciphRange

/-- An engine step of a CRYPT. Over memory that is not ordinary a CRYPT has none (20_memory.md R72; log entry 9). -/
def State.whenOrdinary (s : State) (o : Host.Outcome State Fault Refusal) : Host.Outcome State Fault Refusal :=
  if s.buffersOrdinary then o else .fault .notOrdinaryMemory

/-- The checks at the issue of CRYPT (42_streamer.md R150). -/
def cryptChecks (var : Nat) (s : State) : List Check :=
  [variantCheck var, keyCheck s, operandCheck 0x0003F300 s, rangeCheck s, overlapCheck s]

/-- CRYPT (42_streamer.md R150). -/
def execCrypt (var : Nat) (s : State) : Host.Outcome State Fault Refusal :=
  match s.phase with
  | .idle => .next (s.issue (encode (.crypt var)) (cryptChecks var s) State.latchCrypt)
  | .start => s.whenOrdinary (.next s.setupStep)
  | .gen => s.whenOrdinary (.next s.genStep)
  | .xor => s.whenOrdinary s.byteStep

end Sys2Proof.Machine
end

