-- ==== Sys2Proof/Machine/Dispatch.lean ====
section
/-! DEFINITION. One arm per command of S20CORE-CMD v1. -/

namespace Sys2Proof.Machine

def exec (i : Instr) (s : State) : Host.Outcome State Fault Refusal :=
  match i with
  | .nop => Sys2Proof.Machine.execNop s
  | .buildState => Sys2Proof.Machine.execBuildState s
  | .setCounter => Sys2Proof.Machine.execSetCounter s
  | .transform var => Sys2Proof.Machine.execTransform var s
  | .crypt var => Sys2Proof.Machine.execCrypt var s

end Sys2Proof.Machine
end

