-- ==== Sys2Proof/Machine/Agents.lean ====
section
/-! DEFINITION. What each agent does in one atomic step (43_control.md R185, R188, R190 to R196; 20_memory.md R73,
R74). -/

namespace Sys2Proof.Machine

/-- `HostRead(off)` (43_control.md R191). A read changes nothing of the block; one of STATUS that returns BUSY = 0 is the
synchronisation point of 20_memory.md R76. -/
def hostRead (off : Nat) (s : State) : State :=
  match regOf off with
  | .ctrl => s.answer s.ctrl
  | .status => if s.busy then s.answer s.statusWord else (s.answer s.statusWord).synchronise
  | .errInfo => s.answer s.errInfo
  | .caps => s.answer (capsWord s.cfg)
  | .valid => s.answer s.valid
  | .svalid => s.answer s.svalid
  | .faultAddrLo => s.answer s.faultAddr.lo
  | .faultAddrHi => s.answer s.faultAddr.hi
  | .progressLo => s.answer s.progress.lo
  | .progressHi => s.answer s.progress.hi
  | .operand r => if s.valid.getLsbD r.validBit then s.answer (s.operands.get r) else s.answerFree
  | .state i => if !s.busy && s.svalid.getLsbD i.val then s.answer s.matrix[i] else s.answerFree
  | .ks i => if !s.busy && s.valid.getLsbD ksValidBit then s.answer s.ks[i] else s.answerFree
  | .reserved => s.answer 0

/-- `issue(w)` (43_control.md R180), in a block that is not BUSY. -/
def issueWord (w : Word) (s : State) : Host.Outcome State Fault Refusal :=
  match decode w with
  | none => .next (s.report .opcode w)
  | some i => exec i s

/-- `HostWrite(off, v)` (43_control.md R180, R192 to R195; 60_exceptions.md R201). -/
def hostWrite (off : Nat) (v : Word) (s : State) : Host.Outcome State Fault Refusal :=
  if s.busy then .next (s.report .busy (BitVec.ofNat 32 off))
  else
    match regOf off with
    | .ctrl => issueWord v s
    | .operand r => .next (s.writeOperand r v)
    | .state i => .next (s.writeStateWord i v)
    | _ => .next (s.report .register (BitVec.ofNat 32 off))

/-- One turn of the engine (43_control.md R185). An idle engine makes no step (60_exceptions.md R218). -/
def engineTurn (s : State) : Host.Outcome State Fault Refusal :=
  if s.phase = .idle then .next s
  else
    match commandOf s.op s.var with
    | none => .fault .noEngineStep
    | some i => exec i s

/-- A host register read at a platform address (43_control.md R190). -/
def busRead (addr size : Nat) (s : State) : Host.Outcome State Fault Refusal :=
  match windowOffset s.cfg addr size with
  | none => .refused .accessForm
  | some off => .next (hostRead off s)

/-- A host register write at a platform address (43_control.md R190). -/
def busWrite (addr size : Nat) (data : Word) (s : State) : Host.Outcome State Fault Refusal :=
  match windowOffset s.cfg addr size with
  | none => .refused .accessForm
  | some off => hostWrite off data s

/-- Whether a host access to a data address races with a running CRYPT (20_memory.md R74). -/
def State.races (s : State) (a : Nat) : Bool := s.cryptBusy && (s.msgRange.has a || s.ciphRange.has a)

/-- What stops a host access to a data address, if anything does (20_memory.md R60, R72, R74). -/
def hostAccessFault (s : State) (a : Nat) : Option Fault :=
  if !inSpace s.cfg a then some .noSuchAddress
  else if !ordinary s.cfg a then some .notOrdinaryMemory
  else if s.races a then some .bufferRace
  else none

/-- The host reads a byte of the data address space (20_memory.md R73). DESIGN CHOICE, safe (log entry 22): between the
write of a cipher byte and the host's next read of STATUS that returns BUSY = 0, where 20_memory.md R76 and
70_reset_and_hazards.md R240 promise nothing, the read returns a free value. -/
def dataRead (a : Nat) (s : State) : Host.Outcome State Fault Refusal :=
  match hostAccessFault s a with
  | some f => .fault f
  | none => .next (if s.isUnseen a then s.answerFreeByte else s.answerByte (s.mem.byteAt a))

/-- The host writes a byte of the data address space (20_memory.md R73; log entry 22 for a byte that a CRYPT wrote
unseen). -/
def dataWrite (a : Nat) (v : Byte) (s : State) : Host.Outcome State Fault Refusal :=
  match hostAccessFault s a with
  | some f => .fault f
  | none => .next { s with mem := s.mem.write a v }

/-- What an event does, once it is taken from the inbox. -/
def handle (e : Event) (s : State) : Host.Outcome State Fault Refusal :=
  match e with
  | .engine => engineTurn s
  | .busRead addr size => busRead addr size s
  | .busWrite addr size data => busWrite addr size data s
  | .memRead a => dataRead a s
  | .memWrite a v => dataWrite a v s
  | .reset => .next s.applyReset

/-- The next atomic step: the oldest event, or a turn of the engine when no event is left (43_control.md R188, R189;
log entry 1). -/
def takeTurn (s : State) : Host.Outcome State Fault Refusal :=
  match s.inbox with
  | [] => engineTurn s
  | e :: rest => handle e { s with inbox := rest }

/-- The platform address of CTRL. -/
def ctrlAddr (s : State) : Nat := s.cfg.regBase

/-- The state with the host's issue of a command word as the very next event (43_control.md R180; log entry 18). -/
def State.withIssue (s : State) (w : Word) : State :=
  { s with inbox := .busWrite (ctrlAddr s) 4 w :: s.inbox }

end Sys2Proof.Machine
end

