-- ==== Sys2Proof/Machine/Step.lean ====
section
/-! DEFINITION. One step of the machine: one atomic act of the host, the platform or the engine (43_control.md R188). -/

namespace Sys2Proof.Machine

/-- One step. -/
def step (s : State) : Host.Outcome State Fault Refusal := takeTurn s

/-- The state in which the next step issues the command word `w` of `nbits` bits. The block fetches nothing (20_memory.md
R75): its commands are the host's writes to CTRL, so the word is placed as the next such write (log entry 18). -/
def State.withFetchWord (s : State) (nbits w : Nat) : State := s.withIssue (tableWord nbits w)

end Sys2Proof.Machine
end

