-- ==== Sys2Proof/Safety.lean ====
section
/-! DEFINITION. The terms in which claims are stated: when a command is accepted, what a running command relies on, the
invariant of the block, and what a finished CRYPT leaves. -/

namespace Sys2Proof.Machine

/-- The checks at the issue of a command, after BUSY and decode (60_exceptions.md R203). -/
def checksOf (i : Instr) (s : State) : List Check :=
  match i with
  | .nop => []
  | .buildState => buildStateChecks s
  | .setCounter => setCounterChecks s
  | .transform var => transformChecks var s
  | .crypt var => cryptChecks var s

/-- Every check of 60_exceptions.md R203 after BUSY and decode passes. -/
def Ready (i : Instr) (s : State) : Prop := firstFailure (checksOf i s) = none

/-- The hidden registers hold what the accept of CRYPT latched, and the operand registers still hold it
(43_control.md R184; 10_state.md R48). -/
structure Latched (s : State) : Prop where
  mlen : s.lMlen = s.operands.mlen
  msg : s.lMsg = s.operands.msg
  ciph : s.lCiph = s.operands.ciph

/-- Where a CRYPT stands inside its blocks: fewer bytes done than asked for, the counter at the block of the next byte,
and S built for that counter (42_streamer.md R155, R160). -/
structure InBlock (s : State) : Prop where
  more : s.progress.toNat < s.lMlen.toNat
  ctr : s.ctr.toNat = s.progress.toNat / 64
  matrix : s.matrix = build s.cfg.keyLayout s.operands.key s.operands.nonce s.ctr
  svalid : s.svalid = allStateValid

/-- The invariant of the block: what holds at reset and what every step keeps. -/
structure Inv (s : State) : Prop where
  /-- The parameters are legal (00_scope.md R8). -/
  params : s.cfg.wellFormed = true
  /-- The memory is in canonical form. -/
  memory : s.mem.wf = true
  /-- Every recorded byte lies in the data address space (20_memory.md R60). -/
  space : s.mem.below (2 ^ s.cfg.addrWidth) = true
  /-- BUSY = 1 exactly when phase ≠ IDLE (10_state.md R42). -/
  busy : s.busy = true ↔ s.phase ≠ .idle
  /-- DONE = 0 from accept until finish (10_state.md R33). -/
  done : s.busy = true → s.done = false
  /-- ERR_CODE is 0 exactly when ERR = 0 (10_state.md R33). -/
  report : s.err = false ↔ s.errCode = .noError
  /-- ERR_INFO is 0 when ERR = 0 (10_state.md R34). -/
  detail : s.err = false → s.errInfo = 0
  /-- Bits [31:19] of VALID read 0 (10_state.md R36). -/
  validReserved : s.valid &&& 0xFFF80000 = 0
  /-- Bits [31:16] of SVALID read 0 (10_state.md R37). -/
  svalidReserved : s.svalid &&& 0xFFFF0000 = 0
  /-- A running command was accepted: CTRL reads its word, and its operands are still valid (43_control.md R183). -/
  running : s.phase ≠ .idle → ∃ i, commandOf s.op s.var = some i ∧ s.ctrl = encode i ∧ Ready i s
  /-- Phases GEN and XOR occur only under CRYPT (43_control.md R185). -/
  crypt : s.phase = .gen ∨ s.phase = .xor → s.op = 4
  /-- A running CRYPT works on the latched operands (43_control.md R184). -/
  latched : s.phase ≠ .idle → s.op = 4 → Latched s
  /-- A CRYPT starts at byte 0 (42_streamer.md R151). -/
  started : s.phase = .start → s.op = 4 → s.progress = 0
  /-- A GEN step starts a block (42_streamer.md R155). -/
  blockStart : s.phase = .gen → InBlock s ∧ s.progress.toNat % 64 = 0
  /-- During the byte steps KS is the keystream of the block (42_streamer.md R155, R157). -/
  inBlock : s.phase = .xor → InBlock s ∧ s.ks = salsaCore s.matrix ∧ s.valid.getLsbD ksValidBit = true
  /-- The host is not bound to see what a CRYPT writes before it has read BUSY = 0 (70_reset_and_hazards.md R240). -/
  unseen : s.phase = .gen ∨ s.phase = .xor → s.ciphRange ∈ s.unseen

/-- `n` steps, stopping at the first fault or refusal. -/
def run : Nat → State → Host.Outcome State Fault Refusal
  | 0, s => .next s
  | n + 1, s =>
    match step s with
    | .next t => run n t
    | .fault f => .fault f
    | .refused r => .refused r

/-- `numBlocks = ceil(mlen / 64)` (42_streamer.md R153). -/
def numBlocks (mlen : Nat) : Nat := (mlen + 63) / 64

/-- The engine steps of a CRYPT (42_streamer.md R173). -/
def cryptSteps (mlen : Nat) : Nat := 1 + numBlocks mlen + mlen

/-- The keystream byte at the message offset i (42_streamer.md R162, R170). -/
def keystream (s : State) (i : Nat) : Byte :=
  ksbyte s.cfg.ksByteOrder
    (salsaCore (build s.cfg.keyLayout s.operands.key s.operands.nonce (BitVec.ofNat 64 (i / 64)))) (i % 64)

/-- The platform faults no access that a CRYPT of the operands would make, and both buffers are ordinary memory
(20_memory.md R62, R63, R72). -/
structure BuffersUsable (s : State) : Prop where
  read : ∀ i < s.operands.mlen.toNat, memFault s.cfg .read (s.operands.msg.toNat + i) = false
  write : ∀ i < s.operands.mlen.toNat, memFault s.cfg .write (s.operands.ciph.toNat + i) = false
  message : rangeOrdinary s.cfg (messageRange s.operands.msg s.operands.mlen) = true
  cipher : rangeOrdinary s.cfg (cipherRange s.operands.ciph s.operands.mlen) = true

/-- An idle block with no event pending, in which an issue of the command is accepted. -/
structure CanIssue (i : Instr) (s : State) : Prop where
  idle : s.phase = .idle
  notBusy : s.busy = false
  quiet : s.inbox = []
  ready : Ready i s

/-- `t` is the end of a CRYPT issued with the variant `var` in `s` and left to the engine: the issue, and the engine
steps of 42_streamer.md R173. -/
def CryptEndsIn (var : Nat) (s t : State) : Prop :=
  run (1 + cryptSteps s.operands.mlen.toNat) (s.withIssue (encode (.crypt var))) = .next t

/-- `t` is the state in which a CRYPT issued in `s` ends, `n` steps later, however the acts of the host fell between the
engine's steps (43_control.md R188): the issue is accepted, the block is BUSY until the last of the steps, and no reset
comes. -/
structure CryptRuns (var n : Nat) (s t : State) : Prop where
  issued : ∃ rest, s.inbox = .busWrite s.cfg.regBase 4 (encode (.crypt var)) :: rest
  idle : s.phase = .idle
  notBusy : s.busy = false
  ready : Ready (.crypt var) s
  ends : run n s = .next t
  takesSteps : 0 < n
  busy : ∀ k u, 0 < k → k < n → run k s = .next u → u.busy = true
  noReset : ∀ k u rest, k < n → run k s = .next u → u.inbox ≠ .reset :: rest
  ended : t.busy = false

/-- The offset of an operand register (10_state.md R22). -/
def operandOffset : OperandReg → Nat
  | .key i => 0x040 + 4 * i.val
  | .nonceLo => 0x060
  | .nonceHi => 0x064
  | .counterLo => 0x068
  | .counterHi => 0x06C
  | .mlenLo => 0x070
  | .mlenHi => 0x074
  | .msgAddrLo => 0x078
  | .msgAddrHi => 0x07C
  | .ciphAddrLo => 0x080
  | .ciphAddrHi => 0x084

/-- The next event is the host's write of `v` at the register offset `off`, as an aligned 32-bit access in the window
(43_control.md R190). -/
def NextWrite (s : State) (off : Nat) (v : Word) (rest : List Event) : Prop :=
  off < 0x1000 ∧ off % 4 = 0 ∧ s.inbox = .busWrite (s.cfg.regBase + off) 4 v :: rest

/-- The next event is the host's read at the register offset `off`, as an aligned 32-bit access in the window. -/
def NextRead (s : State) (off : Nat) (rest : List Event) : Prop :=
  off < 0x1000 ∧ off % 4 = 0 ∧ s.inbox = .busRead (s.cfg.regBase + off) 4 :: rest

/-- The next event is the reset input. -/
def NextIsReset (s : State) : Prop := ∃ rest, s.inbox = .reset :: rest

end Sys2Proof.Machine
end

