-- ==== Sys2Proof/Certificates/Slice0/Obligations.lean ====
section
/-! DEFINITION. The statements for the provers. Each docstring names the rules of spec/ it comes from. -/

open Sys2Proof Sys2Proof.Machine

/-! ### Encoding (30_encoding.md) -/

/-- R81, R82, R86: the decoder reads back every command the encoder writes, VAR at every value of its field. -/
def Obligations.DecodeOfEncodeIsTheCommand : Prop :=
  ∀ i : Instr, i.wellFormed = true → decode (encode i) = some i

/-- R80, R86: each word has at most one meaning, and the decoder drops no bit of it. -/
def Obligations.EncodeOfDecodeIsTheWord : Prop :=
  ∀ (w : Word) (i : Instr), decode w = some i → i.wellFormed = true ∧ encode i = w

/-- R87: which words are Illegal. -/
def Obligations.IllegalWordsAreTheReservedOnes : Prop :=
  ∀ w : Word, decode w = none ↔
    (5 ≤ (w.extractLsb' 0 4).toNat ∨ w.extractLsb' 4 4 ≠ 0 ∨ w.extractLsb' 16 16 ≠ 0
      ∨ ((w.extractLsb' 0 4).toNat ≤ 2 ∧ w.extractLsb' 8 8 ≠ 0))

/-- R85: the rows of the opcode map, by mask and match. -/
def Obligations.OpcodeMapRowsByMaskAndMatch : Prop :=
  ∀ w : Word,
    (decode w = some .nop ↔ w &&& 0xFFFFFFFF = 0x00000000) ∧
    (decode w = some .buildState ↔ w &&& 0xFFFFFFFF = 0x00000001) ∧
    (decode w = some .setCounter ↔ w &&& 0xFFFFFFFF = 0x00000002) ∧
    (∀ v, decode w = some (.transform v) ↔ w &&& 0xFFFF00FF = 0x00000003 ∧ v = (w.extractLsb' 8 8).toNat) ∧
    (∀ v, decode w = some (.crypt v) ↔ w &&& 0xFFFF00FF = 0x00000004 ∧ v = (w.extractLsb' 8 8).toNat)

/-- R88: the canonical command words. -/
def Obligations.CanonicalWordsDecode : Prop :=
  decode 0x00000000 = some .nop ∧ decode 0x00000001 = some .buildState ∧ decode 0x00000002 = some .setCounter ∧
  decode 0x00000003 = some (.transform 0) ∧ decode 0x00000103 = some (.transform 1) ∧
  decode 0x00000203 = some (.transform 2) ∧ decode 0x00000303 = some (.transform 3) ∧
  decode 0x00000004 = some (.crypt 0) ∧ decode 0x00000104 = some (.crypt 1) ∧
  decode 0x00000204 = some (.crypt 2) ∧ decode 0x00000304 = some (.crypt 3) ∧
  ∀ v : BitVec 8, decode (0x00000003 ||| (v.setWidth 32 <<< 8)) = some (.transform v.toNat) ∧
    decode (0x00000004 ||| (v.setWidth 32 <<< 8)) = some (.crypt v.toNat)

/-- R89: the worked decodes, and the reports that issues of the illegal ones make in an idle block; the issue is the
host's write to CTRL that withFetchWord places (log entry 18). -/
def Obligations.WorkedWordsAreReported : Prop :=
  decode 0x00000204 = some (.crypt 2) ∧ 2 < nVariants ∧ decode 0x00000404 = some (.crypt 4) ∧
  decode 0x00000101 = none ∧ decode 0x00000014 = none ∧ decode 0x00000007 = none ∧ decode 0x80000003 = none ∧
  ∀ s : State, s.phase = .idle → s.busy = false →
    step (s.withFetchWord 32 0x00000404) = .next { s with err := true, errCode := .variant, errInfo := 4 } ∧
    step (s.withFetchWord 32 0x00000101) = .next { s with err := true, errCode := .opcode, errInfo := 0x00000101 } ∧
    step (s.withFetchWord 32 0x00000014) = .next { s with err := true, errCode := .opcode, errInfo := 0x00000014 } ∧
    step (s.withFetchWord 32 0x00000007) = .next { s with err := true, errCode := .opcode, errInfo := 0x00000007 } ∧
    step (s.withFetchWord 32 0x80000003) = .next { s with err := true, errCode := .opcode, errInfo := 0x80000003 }

/-! ### One step: the issue of a command, the engine, the host's register accesses (43_control.md) -/

/-- R180, R86: in a block that is not BUSY, the host's write of a word to CTRL runs the command the word decodes to, and
a word that decodes to none is reported as OPCODE. -/
def Obligations.StepRunsTheIssuedCommand : Prop :=
  ∀ (s : State) (w : Word) (rest : List Event), NextWrite s 0 w rest → s.busy = false →
    (∀ i, decode w = some i → step s = exec i { s with inbox := rest }) ∧
    (decode w = none → step s = .next { s with inbox := rest, err := true, errCode := .opcode, errInfo := w })

/-- R185: the engine's turn runs the command of the hidden registers. That a turn comes when the inbox says so, or when
it is empty, is the model's choice (log entry 1); that an opcode outside the table stops is log entry 8. -/
def Obligations.StepRunsTheEngineCommand : Prop :=
  ∀ (s t : State), s.phase ≠ .idle → (s.inbox = [] ∧ t = s ∨ ∃ rest, s.inbox = .engine :: rest ∧ t = { s with inbox := rest }) →
    (s.op = 0 → step s = exec .nop t) ∧ (s.op = 1 → step s = exec .buildState t) ∧
    (s.op = 2 → step s = exec .setCounter t) ∧ (s.op = 3 → step s = exec (.transform s.var.toNat) t) ∧
    (s.op = 4 → step s = exec (.crypt s.var.toNat) t) ∧ (5 ≤ s.op.toNat → step s = .fault .noEngineStep)

/-- R218: an idle block keeps all its state until the next host access or reset. That an idle block still takes its
turns, each of which changes nothing, is the model's choice (log entry 1). -/
def Obligations.IdleEngineKeepsTheState : Prop :=
  ∀ s : State, s.phase = .idle →
    (s.inbox = [] → step s = .next s) ∧
    (∀ rest, s.inbox = .engine :: rest → step s = .next { s with inbox := rest })

/-- R195: a write while BUSY, at any offset, is rejected and changes nothing else. -/
def Obligations.WriteWhileBusyIsRejected : Prop :=
  ∀ (s : State) (off : Nat) (v : Word) (rest : List Event), NextWrite s off v rest → s.busy = true →
    step s = .next { s with inbox := rest, err := true, errCode := .busy, errInfo := BitVec.ofNat 32 off }

/-- R192, R36: a write to an operand register stores the value, sets the register's valid bit, the k-th of VALID for the
register at 0x040 + 4·k, and changes nothing else. -/
def Obligations.OperandWriteStoresAndMarks : Prop :=
  ∀ (s : State) (r : OperandReg) (v : Word) (rest : List Event), NextWrite s (operandOffset r) v rest → s.busy = false →
    ∃ t, step s = .next t ∧ t.operands.get r = v ∧ (∀ q, q ≠ r → t.operands.get q = s.operands.get q) ∧
      (∀ k, t.valid.getLsbD k = (s.valid.getLsbD k || decide (k = (operandOffset r - 0x040) / 4))) ∧
      t = { s with inbox := rest, operands := t.operands, valid := t.valid }

/-- R193: a write to STATEi stores the word, sets its valid bit and changes nothing else. -/
def Obligations.StateWordWriteStoresAndMarks : Prop :=
  ∀ (s : State) (i : Fin 16) (v : Word) (rest : List Event), NextWrite s (0x0C0 + 4 * i.val) v rest → s.busy = false →
    ∃ t, step s = .next t ∧ t.matrix[i] = v ∧ (∀ j : Fin 16, j ≠ i → t.matrix[j] = s.matrix[j]) ∧
      (∀ k, t.svalid.getLsbD k = (s.svalid.getLsbD k || decide (k = i.val))) ∧
      t = { s with inbox := rest, matrix := t.matrix, svalid := t.svalid }

/-- R194: a write to a read-only register or to a reserved offset is rejected and writes nothing. -/
def Obligations.ReadOnlyWriteIsRejected : Prop :=
  ∀ (s : State) (off : Nat) (v : Word) (rest : List Event), NextWrite s off v rest → s.busy = false →
    (0x004 ≤ off ∧ off ≤ 0x03C ∨ 0x088 ≤ off ∧ off ≤ 0x0BC ∨ 0x100 ≤ off) →
    step s = .next { s with inbox := rest, err := true, errCode := .register, errInfo := BitVec.ofNat 32 off }

/-- R190: a register access that is not an aligned 32-bit access inside the window is refused (log entry 11). -/
def Obligations.OtherAccessFormsAreRefused : Prop :=
  ∀ (s : State) (addr size : Nat) (v : Word) (rest : List Event),
    (size ≠ 4 ∨ addr < s.cfg.regBase ∨ s.cfg.regBase + 0x1000 ≤ addr ∨ (addr - s.cfg.regBase) % 4 ≠ 0) →
    (s.inbox = .busRead addr size :: rest ∨ s.inbox = .busWrite addr size v :: rest) →
    step s = .refused .accessForm

/-- R191: what a host read returns where the spec fixes it; a read changes nothing of the block. `response` is
the model's record of what was read (log entry 15). R73, R76, R240: from a read of STATUS that returns BUSY = 0 on, the
host sees every write of the engine, so no range is unseen (log entry 22). -/
def Obligations.HostReadReturnsTheRegister : Prop :=
  ∀ (s : State) (off : Nat) (rest : List Event) (v : Word), NextRead s off rest →
    (off = 0x000 ∧ v = s.ctrl ∨
     off = 0x004 ∧ v = s.statusWord ∨
     off = 0x008 ∧ v = s.errInfo ∨
     off = 0x00C ∧ v = capsWord s.cfg ∨
     off = 0x010 ∧ v = s.valid ∨
     off = 0x014 ∧ v = s.svalid ∨
     off = 0x018 ∧ v = s.faultAddr.extractLsb' 0 32 ∨
     off = 0x01C ∧ v = s.faultAddr.extractLsb' 32 32 ∨
     off = 0x020 ∧ v = s.progress.extractLsb' 0 32 ∨
     off = 0x024 ∧ v = s.progress.extractLsb' 32 32 ∨
     (∃ r, off = operandOffset r ∧ s.valid.getLsbD ((off - 0x040) / 4) = true ∧ v = s.operands.get r) ∨
     (∃ i : Fin 16, off = 0x0C0 + 4 * i.val ∧ s.busy = false ∧ s.svalid.getLsbD i.val = true ∧ v = s.matrix[i]) ∨
     (∃ i : Fin 16, off = 0x100 + 4 * i.val ∧ s.busy = false ∧ s.valid.getLsbD 18 = true ∧ v = s.ks[i]) ∨
     (0x028 ≤ off ∧ off ≤ 0x03C ∨ 0x088 ≤ off ∧ off ≤ 0x0BC ∨ 0x140 ≤ off) ∧ v = 0) →
    step s = .next { s with
      inbox := rest, response := .word v, unseen := if off = 0x004 ∧ s.busy = false then [] else s.unseen }

/-- R45, R46, R191: a read of a register whose valid bit is 0, or of STATE or KS while BUSY, returns a free value and
depends on nothing that the register holds. R76, R240: the same for the host's read of a byte of a cipher range that a
CRYPT wrote since the last read of STATUS that returned BUSY = 0 (log entry 22). That each such read is a fresh draw is
log entry 17. -/
def Obligations.UnspecifiedReadReturnsAFreeValue : Prop :=
  (∀ (s : State) (off : Nat) (rest : List Event), NextRead s off rest →
    ((∃ r, off = operandOffset r ∧ s.valid.getLsbD ((off - 0x040) / 4) = false) ∨
     (∃ i : Fin 16, off = 0x0C0 + 4 * i.val ∧ (s.busy = true ∨ s.svalid.getLsbD i.val = false)) ∨
     (∃ i : Fin 16, off = 0x100 + 4 * i.val ∧ (s.busy = true ∨ s.valid.getLsbD 18 = false))) →
    step s = .next { s with inbox := rest, response := .word (Config.freeWord s.draws), draws := s.draws + 1 }) ∧
  ∀ (s : State) (a : Nat) (r : Span) (rest : List Event), s.inbox = .memRead a :: rest →
    a < 2 ^ s.cfg.addrWidth → ordinary s.cfg a = true → s.races a = false →
    r ∈ s.unseen → r.base ≤ a → a < r.base + r.size →
    step s = .next { s with inbox := rest, response := .byte (Config.freeByte s.draws), draws := s.draws + 1 }

/-- R33, R35, R200: the fields of STATUS, ERR_CODE by its number, and, under any legal parameters, of CAPS as the host reads them, and CAPS under the
defaults. -/
def Obligations.StatusAndCapsFieldsAsRead : Prop :=
  (∀ s : State,
    s.statusWord.getLsbD 0 = s.busy ∧ s.statusWord.getLsbD 1 = s.done ∧ s.statusWord.getLsbD 2 = s.err ∧
    s.statusWord.extractLsb' 3 5 = 0 ∧ 
    s.statusWord.extractLsb' 8 4 = (match s.errCode with
      | .noError => 0 | .keyLength => 1 | .variant => 2 | .opcode => 3 | .busy => 4 | .operandUnset => 5
      | .stateUnset => 6 | .range => 7 | .overlap => 8 | .bus => 9 | .register => 10) ∧
    s.statusWord.extractLsb' 12 20 = 0) ∧
  (∀ p : Params, p.wellFormed = true →
    (capsWord p).extractLsb' 0 8 = 4 ∧
    (capsWord p).extractLsb' 8 2 = (match p.keyLayout with | .descending => 0 | .ascending => 1 | .standard => 2) ∧
    (capsWord p).getLsbD 10 = decide (p.ksByteOrder = .big) ∧ (capsWord p).getLsbD 11 = false ∧
    ((capsWord p).extractLsb' 12 7).toNat = p.addrWidth ∧ (capsWord p).extractLsb' 19 13 = 0) ∧
  capsWord Params.default = 0x00040004

/-! ### Accept, reject and finish (43_control.md, 60_exceptions.md) -/

/-- R183: the accept of every command, by the word issued. Only the accept of CRYPT changes more (R184). -/
def Obligations.AcceptRecordsTheCommand : Prop :=
  ∀ (s : State) (w : Word) (i : Instr), decode w = some i → s.phase = .idle → Ready i s →
    ∃ t, exec i s = .next t ∧
      t = { s with
        ctrl := w, op := w.extractLsb' 0 4, var := w.extractLsb' 8 8, busy := true, done := false, err := false,
        errCode := .noError, errInfo := 0, faultAddr := 0, phase := .start,
        lMlen := t.lMlen, lMsg := t.lMsg, lCiph := t.lCiph, progress := t.progress } ∧
      ((∀ v, i ≠ .crypt v) →
        t.lMlen = s.lMlen ∧ t.lMsg = s.lMsg ∧ t.lCiph = s.lCiph ∧ t.progress = s.progress)

/-- R183, R184: the accept of CRYPT also latches its operands and clears progress. -/
def Obligations.AcceptOfCryptLatchesTheOperands : Prop :=
  ∀ (s : State) (w : Word) (v : Nat), decode w = some (.crypt v) → s.phase = .idle → Ready (.crypt v) s →
    exec (.crypt v) s = .next { s with
      ctrl := w, op := w.extractLsb' 0 4, var := w.extractLsb' 8 8, busy := true, done := false, err := false,
      errCode := .noError, errInfo := 0, faultAddr := 0, phase := .start,
      lMlen := s.operands.mlenHi ++ s.operands.mlenLo,
      lMsg := s.operands.msgAddrHi ++ s.operands.msgAddrLo,
      lCiph := s.operands.ciphAddrHi ++ s.operands.ciphAddrLo,
      progress := 0 }

/-- R203, R109: the reports of BUILD_STATE, SET_COUNTER and TRANSFORM, in the order of their checks, and that NOP has
none; a report changes nothing else. -/
def Obligations.IssueReportsTheFirstFailingCheck : Prop :=
  ∀ (s : State) (v : Nat), s.phase = .idle →
    Ready .nop s ∧
    ((∃ k, k < 8 ∧ s.valid.getLsbD k = false) → exec .buildState s =
      .next { s with err := true, errCode := .keyLength, errInfo := ~~~s.valid &&& 0xFF }) ∧
    ((∀ k, k < 8 → s.valid.getLsbD k = true) → 0x00000F00 &&& ~~~s.valid ≠ 0 → exec .buildState s =
      .next { s with err := true, errCode := .operandUnset, errInfo := 0x00000F00 &&& ~~~s.valid }) ∧
    ((∀ k, k < 12 → s.valid.getLsbD k = true) → Ready .buildState s) ∧
    (0x00000C00 &&& ~~~s.valid ≠ 0 → exec .setCounter s =
      .next { s with err := true, errCode := .operandUnset, errInfo := 0x00000C00 &&& ~~~s.valid }) ∧
    (s.valid.getLsbD 10 = true → s.valid.getLsbD 11 = true → Ready .setCounter s) ∧
    (4 ≤ v → exec (.transform v) s =
      .next { s with err := true, errCode := .variant, errInfo := BitVec.ofNat 32 v }) ∧
    (v < 4 → s.svalid ≠ 0x0000FFFF → exec (.transform v) s =
      .next { s with err := true, errCode := .stateUnset, errInfo := ~~~s.svalid &&& 0xFFFF }) ∧
    (v < 4 → s.svalid = 0x0000FFFF → Ready (.transform v) s)

/-- R203, R70, R71: the reports of CRYPT, in the order of its checks; a report changes nothing else. -/
def Obligations.CryptReportsTheFirstFailingCheck : Prop :=
  ∀ (s : State) (v : Nat), s.phase = .idle →
    let keys := ∀ k, k < 8 → s.valid.getLsbD k = true
    let operands := 0x0003F300 &&& ~~~s.valid = 0
    let top := 2 ^ s.cfg.addrWidth
    let msgOut := top < s.operands.msg.toNat + s.operands.mlen.toNat
    let ciphOut := top < s.operands.ciph.toNat + s.operands.mlen.toNat
    let shared := s.operands.msg ≠ s.operands.ciph ∧ ∃ i j, i < s.operands.mlen.toNat ∧ j < s.operands.mlen.toNat ∧
      s.operands.msg.toNat + i = s.operands.ciph.toNat + j
    (4 ≤ v → exec (.crypt v) s =
      .next { s with err := true, errCode := .variant, errInfo := BitVec.ofNat 32 v }) ∧
    (v < 4 → ¬keys → exec (.crypt v) s =
      .next { s with err := true, errCode := .keyLength, errInfo := ~~~s.valid &&& 0xFF }) ∧
    (v < 4 → keys → ¬operands → exec (.crypt v) s =
      .next { s with err := true, errCode := .operandUnset, errInfo := 0x0003F300 &&& ~~~s.valid }) ∧
    (v < 4 → keys → operands → msgOut ∨ ciphOut → ∃ d : Word, exec (.crypt v) s =
      .next { s with err := true, errCode := .range, errInfo := d } ∧
      (d.getLsbD 0 = true ↔ msgOut) ∧ (d.getLsbD 1 = true ↔ ciphOut) ∧ d.extractLsb' 2 30 = 0) ∧
    (v < 4 → keys → operands → ¬msgOut → ¬ciphOut → shared → exec (.crypt v) s =
      .next { s with err := true, errCode := .overlap, errInfo := 0 }) ∧
    (v < 4 → keys → operands → ¬msgOut → ¬ciphOut → ¬shared → Ready (.crypt v) s)

/-! ### The engine steps of NOP, BUILD_STATE, SET_COUNTER and TRANSFORM -/

/-- R187, R186: the engine step of NOP is finish and nothing else. -/
def Obligations.NopFinishesAndDoesNothing : Prop :=
  ∀ s : State, s.phase = .start → exec .nop s = .next { s with busy := false, done := true, phase := .idle }

/-- R108, R113: the engine step of BUILD_STATE writes S and SVALID, finishes, and changes nothing else. -/
def Obligations.BuildStateWritesTheMatrix : Prop :=
  ∀ s : State, s.phase = .start →
    exec .buildState s = .next { s with
      matrix := build s.cfg.keyLayout s.operands.key (s.operands.nonceHi ++ s.operands.nonceLo)
        (s.operands.counterHi ++ s.operands.counterLo)
      svalid := 0x0000FFFF, busy := false, done := true, phase := .idle }

/-- R112, R113: the engine step of SET_COUNTER writes S[8], S[9] and their valid bits, finishes, and changes nothing
else. -/
def Obligations.SetCounterWritesTheCounterCells : Prop :=
  ∀ s : State, s.phase = .start →
    ∃ t, exec .setCounter s = .next t ∧
      t.matrix[(8 : Fin 16)] = s.operands.counterLo ∧ t.matrix[(9 : Fin 16)] = s.operands.counterHi ∧
      (∀ i : Fin 16, i ≠ 8 → i ≠ 9 → t.matrix[i] = s.matrix[i]) ∧
      (∀ k, t.svalid.getLsbD k = (s.svalid.getLsbD k || decide (k = 8) || decide (k = 9))) ∧
      t = { s with matrix := t.matrix, svalid := t.svalid, busy := false, done := true, phase := .idle }

/-- R133, R136: the engine step of TRANSFORM writes KS and KS_V, whatever the variant, finishes, and changes nothing
else. -/
def Obligations.TransformWritesTheKeystream : Prop :=
  ∀ (s : State) (v : Nat), s.phase = .start →
    ∃ t, exec (.transform v) s = .next t ∧ t.ks = salsaCore s.matrix ∧
      (∀ k, t.valid.getLsbD k = (s.valid.getLsbD k || decide (k = 18))) ∧
      t = { s with ks := salsaCore s.matrix, valid := t.valid, busy := false, done := true, phase := .idle }

/-! ### The state builder (40_state_builder.md) -/

/-- R100 to R103: where the constants, the nonce, the counter and the key words lie, under each layout. -/
def Obligations.BuildPlacesEveryCell : Prop :=
  ∀ (key : Vector Word 8) (nonce counter : DWord),
    build .descending key nonce counter =
      (#v[0x61707865, key[7], key[6], key[5],
         key[4], 0x3320646e, nonce.extractLsb' 0 32, nonce.extractLsb' 32 32,
         counter.extractLsb' 0 32, counter.extractLsb' 32 32, 0x79622d32, key[3],
         key[2], key[1], key[0], 0x6b206574] : Block) ∧
    build .ascending key nonce counter =
      (#v[0x61707865, key[4], key[5], key[6],
         key[7], 0x3320646e, nonce.extractLsb' 0 32, nonce.extractLsb' 32 32,
         counter.extractLsb' 0 32, counter.extractLsb' 32 32, 0x79622d32, key[0],
         key[1], key[2], key[3], 0x6b206574] : Block) ∧
    build .standard key nonce counter =
      (#v[0x61707865, key[0], key[1], key[2],
         key[3], 0x3320646e, nonce.extractLsb' 0 32, nonce.extractLsb' 32 32,
         counter.extractLsb' 0 32, counter.extractLsb' 32 32, 0x79622d32, key[4],
         key[5], key[6], key[7], 0x6b206574] : Block)

/-- R101, R102: the layout loses nothing, so two different (key, nonce, counter) never build the same state. -/
def Obligations.BuildLosesNothing : Prop :=
  ∀ (l : KeyLayout) (key key' : Vector Word 8) (nonce nonce' counter counter' : DWord),
    build l key nonce counter = build l key' nonce' counter' → key = key' ∧ nonce = nonce' ∧ counter = counter'

/-- R107: setting the counter of a built state is building it anew; SET_COUNTER on any other S keeps the words that S
holds. -/
def Obligations.SetCounterEqualsRebuilding : Prop :=
  (∀ (l : KeyLayout) (key : Vector Word 8) (nonce c1 c2 : DWord),
    setctr (build l key nonce c1) c2 = build l key nonce c2) ∧
  ∀ (s : State) (c1 : DWord), s.phase = .start →
    ∃ t, exec .setCounter s = .next t ∧
      (s.matrix = build s.cfg.keyLayout s.operands.key s.operands.nonce c1 →
        t.matrix = build s.cfg.keyLayout s.operands.key s.operands.nonce s.operands.counter) ∧
      ∀ i : Fin 16, i ≠ 8 → i ≠ 9 → t.matrix[i] = s.matrix[i]

/-- R110: the known-vector input state, under every layout. -/
def Obligations.ZeroOperandsBuildTheKnownVector : Prop :=
  ∀ s : State, s.phase = .start → s.operands.key = Vector.replicate 8 0 → s.operands.nonce = 0 → s.operands.counter = 0 →
    ∃ t, exec .buildState s = .next t ∧
      t.matrix = #v[0x61707865, 0, 0, 0, 0, 0x3320646e, 0, 0, 0, 0, 0x79622d32, 0, 0, 0, 0, 0x6b206574]

/-! ### The core transform (41_core_transform.md) -/

/-- R121: rotl32 moves bit k to bit (k + n) mod 32, and its worked corners. -/
def Obligations.RotationMovesEachBit : Prop :=
  (∀ (x : Word) (n k : Nat), 0 < n → n < 32 → k < 32 → (rotl32 x n).getLsbD ((k + n) % 32) = x.getLsbD k) ∧
  (∀ n, 0 < n → n < 32 → rotl32 0 n = 0 ∧ rotl32 0xFFFFFFFF n = 0xFFFFFFFF) ∧
  rotl32 0x00000001 7 = 0x00000080 ∧ rotl32 0x00000001 18 = 0x00040000 ∧
  rotl32 0x12345678 13 = 0x8acf0246 ∧ rotl32 0xdeadbeef 9 = 0x5b7ddfbd

/-- R123: the corners of the quarter-round, that each of its four updates is invertible given the words it does not
write, and that the whole is a permutation of 128-bit values. -/
def Obligations.QuarterroundIsAPermutation : Prop :=
  quarterround 0 0 0 0 = (0, 0, 0, 0) ∧
  quarterround 1 0 0 0 = (0x08008145, 0x00000080, 0x00010200, 0x20500000) ∧
  quarterround 0xFFFFFFFF 0xFFFFFFFF 0xFFFFFFFF 0xFFFFFFFF = (0xf8038143, 0x00000080, 0xffff01ff, 0x1fb00000) ∧
  (∀ a d : Word, Function.Bijective fun b : Word => b ^^^ rotl32 (a + d) 7) ∧
  (∀ a b : Word, Function.Bijective fun c : Word => c ^^^ rotl32 (a + b) 9) ∧
  (∀ c b : Word, Function.Bijective fun d : Word => d ^^^ rotl32 (c + b) 13) ∧
  (∀ d c : Word, Function.Bijective fun a : Word => a ^^^ rotl32 (d + c) 18) ∧
  Function.Bijective fun q : Word × Word × Word × Word => quarterround q.1 q.2.1 q.2.2.1 q.2.2.2

/-- R124, R126: the cells (a, b, c, d) of each group, from the diagonal cell on. R128: the groups of a half-round are disjoint and cover the 16 cells, so their order does not matter. -/
def Obligations.GroupOrderDoesNotMatter : Prop :=
  (([0, 1, 2, 3] : List (Fin 4)).map fun j => [0, 1, 2, 3].map (columnCell j)) =
    [[0, 4, 8, 12], [5, 9, 13, 1], [10, 14, 2, 6], [15, 3, 7, 11]] ∧
  (([0, 1, 2, 3] : List (Fin 4)).map fun i => [0, 1, 2, 3].map (rowCell i)) =
    [[0, 1, 2, 3], [5, 6, 7, 4], [10, 11, 8, 9], [15, 12, 13, 14]] ∧
  (∀ p : Fin 16, (∃! jk : Fin 4 × Fin 4, columnCell jk.1 jk.2 = p) ∧ ∃! ik : Fin 4 × Fin 4, rowCell ik.1 ik.2 = p) ∧
  ∀ (order : List (Fin 4)) (s : Block), order.Perm [0, 1, 2, 3] →
    order.foldl columnQuarter s = columnround s ∧ order.foldl rowQuarter s = rowround s

/-- R129: the row round is the column round of the transposed block. -/
def Obligations.RowroundIsColumnroundTransposed : Prop :=
  ∀ s : Block, rowround s = transpose (columnround (transpose s))

/-- R131: the transpose form computes the same function as the reference. -/
def Obligations.CoreEqualsTheTransposeForm : Prop :=
  ∀ input : Block, salsaCore input = salsaCoreT input

/-- R133, corner cases: S all zero gives KS all zero; S all ones gives a KS in which row r is row 0 cyclically shifted
right by r word positions. -/
def Obligations.TransformOfUniformStates : Prop :=
  ∀ (s : State) (v : Nat), s.phase = .start →
    ∃ t, exec (.transform v) s = .next t ∧
      (s.matrix = Vector.replicate 16 0 → t.ks = Vector.replicate 16 0) ∧
      (s.matrix = Vector.replicate 16 0xFFFFFFFF → ∀ r c : Fin 4,
        t.ks[(⟨4 * r.val + c.val, by omega⟩ : Fin 16)] = t.ks[(⟨(c.val + 4 - r.val) % 4, by omega⟩ : Fin 16)])

/-- R134, R170: BUILD_STATE with counter n and then TRANSFORM give the keystream block n, which is what a CRYPT uses for
its block n (InBlock, R155). -/
def Obligations.TransformAfterBuildGivesAKeystreamBlock : Prop :=
  ∀ (s : State) (v : Nat), s.phase = .idle → s.busy = false → Ready .buildState s → v < 4 →
    s.inbox = [.busWrite s.cfg.regBase 4 0x00000001, .engine,
      .busWrite s.cfg.regBase 4 (0x00000003 ||| (BitVec.ofNat 32 v <<< 8)), .engine] →
    ∃ t, run 4 s = .next t ∧
      t.ks = salsaCore (build s.cfg.keyLayout s.operands.key s.operands.nonce s.operands.counter) ∧
      t.busy = false ∧ t.done = true ∧ t.err = false ∧ t.mem = s.mem

/-! ### The streamer (42_streamer.md) -/

/-- R67: the four keystream bytes of a word make up the word, least significant first under LITTLE and most significant
first under BIG. -/
def Obligations.KeystreamBytesMakeUpTheWord : Prop :=
  ∀ (ks : Block) (w : Fin 16),
    ksbyte .little ks (4 * w.val + 3) ++ ksbyte .little ks (4 * w.val + 2) ++
      ksbyte .little ks (4 * w.val + 1) ++ ksbyte .little ks (4 * w.val) = ks[w] ∧
    ksbyte .big ks (4 * w.val) ++ ksbyte .big ks (4 * w.val + 1) ++
      ksbyte .big ks (4 * w.val + 2) ++ ksbyte .big ks (4 * w.val + 3) = ks[w]

/-- R152, R167: the setup step of CRYPT; with a message of no bytes it is also the last. That the cipher range counts as
unseen by the host from here on is log entry 22. -/
def Obligations.CryptSetupBuildsWithCounterZero : Prop :=
  ∀ (s : State) (v : Nat), s.phase = .start → s.buffersOrdinary = true →
    (s.lMlen ≠ 0 → exec (.crypt v) s = .next { s with
      matrix := build s.cfg.keyLayout s.operands.key (s.operands.nonceHi ++ s.operands.nonceLo) 0
      svalid := 0x0000FFFF, ctr := 0, phase := .gen,
      unseen := ⟨s.lCiph.toNat, s.lMlen.toNat⟩ :: s.unseen }) ∧
    (s.lMlen = 0 → exec (.crypt v) s = .next { s with
      matrix := build s.cfg.keyLayout s.operands.key (s.operands.nonceHi ++ s.operands.nonceLo) 0
      svalid := 0x0000FFFF, ctr := 0, busy := false, done := true, phase := .idle })

/-- R155: the block-generation step of CRYPT; S is unchanged. -/
def Obligations.CryptGenerationStepWritesKs : Prop :=
  ∀ (s : State) (v : Nat), s.phase = .gen → s.buffersOrdinary = true →
    ∃ t, exec (.crypt v) s = .next t ∧ t.ks = salsaCore s.matrix ∧
      (∀ k, t.valid.getLsbD k = (s.valid.getLsbD k || decide (k = 18))) ∧
      t = { s with ks := salsaCore s.matrix, valid := t.valid, phase := .xor }

/-- R157, R158, R160: the byte step of CRYPT, where the platform faults neither access: the cipher byte, every other
byte of memory, progress, and the end of a block and of the command. -/
def Obligations.CryptByteStepCiphersOneByte : Prop :=
  ∀ (s : State) (v : Nat), s.phase = .xor → s.buffersOrdinary = true →
    let i := s.progress.toNat
    let rd := s.lMsg.toNat + i
    let wr := s.lCiph.toNat + i
    rd < 2 ^ s.cfg.addrWidth → wr < 2 ^ s.cfg.addrWidth →
    memFault s.cfg .read rd = false → memFault s.cfg .write wr = false →
    ∃ t, exec (.crypt v) s = .next t ∧
      t.mem.byteAt wr = s.mem.byteAt rd ^^^ ksbyte s.cfg.ksByteOrder s.ks (i % 64) ∧
      (∀ a, a ≠ wr → t.mem.byteAt a = s.mem.byteAt a) ∧
      t.progress = s.progress + 1 ∧
      (t.progress ≠ s.lMlen → (i + 1) % 64 ≠ 0 →
        t = { s with mem := t.mem, progress := t.progress }) ∧
      (t.progress ≠ s.lMlen → (i + 1) % 64 = 0 →
        t = { s with mem := t.mem, progress := t.progress, ctr := s.ctr + 1, matrix := setctr s.matrix (s.ctr + 1),
                     phase := .gen }) ∧
      (t.progress = s.lMlen →
        t = { s with mem := t.mem, progress := t.progress, ctr := s.ctr + 1, matrix := setctr s.matrix (s.ctr + 1),
                     busy := false, done := true, phase := .idle })

/-- R168, R206: the bus-fault abort of the byte step. The lost values are free (log entry 13), so nothing is said of
them; what is kept is stated. -/
def Obligations.BusFaultAbortsCryptPrecisely : Prop :=
  ∀ (s : State) (v : Nat), s.phase = .xor → s.buffersOrdinary = true →
    let i := s.progress.toNat
    let rd := s.lMsg.toNat + i
    let wr := s.lCiph.toNat + i
    rd < 2 ^ s.cfg.addrWidth → wr < 2 ^ s.cfg.addrWidth →
    memFault s.cfg .read rd = true ∨ memFault s.cfg .write wr = true →
    ∃ t, exec (.crypt v) s = .next t ∧
      t.err = true ∧ t.errCode = .bus ∧ t.progress = s.progress ∧ t.svalid = 0 ∧
      (memFault s.cfg .read rd = true → t.errInfo = 0 ∧ t.faultAddr = BitVec.ofNat 64 rd) ∧
      (memFault s.cfg .read rd = false → t.errInfo = 1 ∧ t.faultAddr = BitVec.ofNat 64 wr) ∧
      (∀ k, t.valid.getLsbD k = (s.valid.getLsbD k && !decide (k = 18))) ∧
      t.busy = false ∧ t.done = true ∧ t.phase = .idle ∧
      (∀ a, a < wr ∨ s.lCiph.toNat + s.lMlen.toNat ≤ a → t.mem.byteAt a = s.mem.byteAt a) ∧
      t = { s with
        err := true, errCode := .bus, errInfo := t.errInfo, faultAddr := t.faultAddr, svalid := 0, valid := t.valid,
        matrix := t.matrix, ks := t.ks, ctr := t.ctr, mem := t.mem, draws := t.draws,
        busy := false, done := true, phase := .idle }

/-- R72: over memory that is not ordinary a CRYPT has no step (log entry 9). -/
def Obligations.CryptOverDeviceMemoryStops : Prop :=
  ∀ (s : State) (v : Nat) (r : Span) (a : Nat), s.phase ≠ .idle → r ∈ s.cfg.sideEffects → r.has a = true →
    (s.msgRange.has a = true ∨ s.ciphRange.has a = true) → exec (.crypt v) s = .fault .notOrdinaryMemory

/-- R162, R163: a CRYPT left to the engine (log entry 1) ends, without error, with the closed form in the cipher buffer
and every other byte of memory as it was. -/
def Obligations.CryptCiphersTheMessage : Prop :=
  ∀ (s : State) (v : Nat), CanIssue (.crypt v) s → BuffersUsable s →
    ∃ t, CryptEndsIn v s t ∧
      (∀ i < s.operands.mlen.toNat, t.mem.byteAt (s.operands.ciph.toNat + i) =
        s.mem.byteAt (s.operands.msg.toNat + i) ^^^ keystream s i) ∧
      (∀ a, (a < s.operands.ciph.toNat ∨ s.operands.ciph.toNat + s.operands.mlen.toNat ≤ a) →
        t.mem.byteAt a = s.mem.byteAt a) ∧
      t.busy = false ∧ t.done = true ∧ t.err = false ∧ t.operands = s.operands ∧ t.inbox = []

/-- R162, R163: the end of a CRYPT that no bus fault stops, however the host's acts fall between the engine's steps. A
byte outside the cipher range is unchanged unless the host itself wrote it meanwhile, and ERR is 0 unless a register
write came, and so was rejected, while the command was BUSY. -/
def Obligations.CryptEndStateUnderAnyInterleaving : Prop :=
  ∀ (s t : State) (v n : Nat), CryptRuns v n s t → t.errCode ≠ .bus →
    let len := s.operands.mlen.toNat
    let msg := s.operands.msg.toNat
    let ciph := s.operands.ciph.toNat
    let built := fun b : Nat => build s.cfg.keyLayout s.operands.key s.operands.nonce (BitVec.ofNat 64 b)
    (∀ i < len, t.mem.byteAt (ciph + i) = s.mem.byteAt (msg + i) ^^^
      ksbyte s.cfg.ksByteOrder (salsaCore (built (i / 64))) (i % 64)) ∧
    t.progress = s.operands.mlen ∧ t.ctr.toNat = numBlocks len ∧ t.matrix = built (numBlocks len) ∧
    t.svalid = 0x0000FFFF ∧
    (1 ≤ numBlocks len → t.ks = salsaCore (built (numBlocks len - 1)) ∧ t.valid.getLsbD 18 = true) ∧
    (len = 0 → t.ks = s.ks ∧ t.valid = s.valid) ∧
    (∀ a, (a < ciph ∨ ciph + len ≤ a) →
      (∀ k u b rest, k < n → run k s = .next u → u.inbox ≠ .memWrite a b :: rest) →
      t.mem.byteAt a = s.mem.byteAt a) ∧
    (∀ i < len, (msg + i < ciph ∨ ciph + len ≤ msg + i) → t.mem.byteAt (msg + i) = s.mem.byteAt (msg + i)) ∧
    t.done = true ∧ t.operands = s.operands ∧
    ((∀ k u addr x w rest, 0 < k → k < n → run k s = .next u → u.inbox ≠ .busWrite addr x w :: rest) → t.err = false)

/-- R173: a CRYPT left to the engine (log entry 1) is BUSY for exactly `1 + numBlocks + mlen` engine steps. -/
def Obligations.CryptTakesItsStepCount : Prop :=
  ∀ (s : State) (v : Nat), CanIssue (.crypt v) s → BuffersUsable s →
    (∀ k, k < 1 + (s.operands.mlen.toNat + 63) / 64 + s.operands.mlen.toNat →
      ∃ u, run (1 + k) (s.withIssue (encode (.crypt v))) = .next u ∧ u.busy = true) ∧
    ∃ t, run (1 + (1 + (s.operands.mlen.toNat + 63) / 64 + s.operands.mlen.toNat)) (s.withIssue (encode (.crypt v))) =
      .next t ∧ t.busy = false ∧ t.done = true ∧ t.err = false

/-- R164: a CRYPT of the result of a CRYPT, with the same key and nonce, returns the message; `u` is the block before the
second CRYPT, which may use any buffers and any variant. Both are left to the engine (log entry 1). -/
def Obligations.CryptTwiceReturnsTheMessage : Prop :=
  ∀ (s t u : State) (v v' : Nat), CanIssue (.crypt v) s → BuffersUsable s → CryptEndsIn v s t →
    CanIssue (.crypt v') u → BuffersUsable u →
    u.cfg.keyLayout = s.cfg.keyLayout → u.cfg.ksByteOrder = s.cfg.ksByteOrder →
    u.operands.key = s.operands.key → u.operands.nonce = s.operands.nonce → u.operands.mlen = s.operands.mlen →
    (∀ i < s.operands.mlen.toNat,
      u.mem.byteAt (u.operands.msg.toNat + i) = t.mem.byteAt (s.operands.ciph.toNat + i)) →
    ∃ w, CryptEndsIn v' u w ∧ ∀ i < s.operands.mlen.toNat,
      w.mem.byteAt (u.operands.ciph.toNat + i) = s.mem.byteAt (s.operands.msg.toNat + i)

/-- R165, R136: the variant changes nothing of a CRYPT but what CTRL reads and the hidden var. -/
def Obligations.CryptDoesNotDependOnTheVariant : Prop :=
  ∀ (s t : State) (v v' : Nat), CanIssue (.crypt v) s → v' < 4 → CryptEndsIn v s t →
    CryptEndsIn v' s { t with ctrl := encode (.crypt v'), var := BitVec.ofNat 8 v' }

/-- R159: the streamer's counter stays below 2^58 inside a block and never goes past it. An abort, which clears SVALID and
leaves the counter unspecified (R168), is left out of the second clause. -/
def Obligations.CounterNeverPassesItsBound : Prop :=
  ∀ (s : State) (v : Nat), Inv s → s.phase = .gen ∨ s.phase = .xor →
    s.ctr.toNat < 2 ^ 58 ∧ ∀ t, exec (.crypt v) s = .next t →
      t.svalid = 0x0000FFFF → t.ctr.toNat ≤ 2 ^ 58

/-! ### The host and the data address space (20_memory.md) -/

/-- R63, R73: the host's read of a byte of no unseen range returns the byte, and one that the host writes is the byte the
next read of it returns; no other byte changes. `response` is the model's record of the read (log entry 15). That such an
access takes no bus fault, even where P_MEM_FAULT holds for the engine, is log entry 16. The reads of a byte of an unseen
range are in UnspecifiedReadReturnsAFreeValue. -/
def Obligations.HostReadsTheByteItWrote : Prop :=
  (∀ (s : State) (a : Nat) (rest : List Event), s.inbox = .memRead a :: rest →
    a < 2 ^ s.cfg.addrWidth → ordinary s.cfg a = true → s.races a = false →
    (∀ r ∈ s.unseen, a < r.base ∨ r.base + r.size ≤ a) →
    step s = .next { s with inbox := rest, response := .byte (s.mem.byteAt a) }) ∧
  ∀ (s : State) (a : Nat) (b : Byte) (rest : List Event), s.inbox = .memWrite a b :: .memRead a :: rest →
    a < 2 ^ s.cfg.addrWidth → ordinary s.cfg a = true → s.races a = false →
    (∀ r ∈ s.unseen, a < r.base ∨ r.base + r.size ≤ a) →
    ∃ m, run 2 s = .next { s with inbox := rest, mem := m, response := .byte b } ∧
      m.byteAt a = b ∧ ∀ c, c ≠ a → m.byteAt c = s.mem.byteAt c

/-- R74: a host access to the message or cipher range while a CRYPT is BUSY is a race fault (log entry 10). -/
def Obligations.HostAccessToBusyBuffersRaces : Prop :=
  ∀ (s : State) (a : Nat) (b : Byte) (rest : List Event), s.inbox = .memWrite a b :: rest ∨ s.inbox = .memRead a :: rest →
    a < 2 ^ s.cfg.addrWidth → ordinary s.cfg a = true → s.busy = true → s.op = 4 →
    (s.lMsg.toNat ≤ a ∧ a < s.lMsg.toNat + s.lMlen.toNat ∨ s.lCiph.toNat ≤ a ∧ a < s.lCiph.toNat + s.lMlen.toNat) →
    step s = .fault .bufferRace

/-- R60, R113, R133: only a byte step of CRYPT, a host write of a byte and a reset can change the data address space. In
phase XOR, where BUSY is 1 (R42; the invariant), every act of the host but these leaves it as it was. -/
def Obligations.MemoryChangesOnlyByStoresAndReset : Prop :=
  ∀ s t : State, step s = .next t →
    (s.phase = .xor → s.busy = true ∧ ∃ e rest, s.inbox = e :: rest ∧ e ≠ .engine) → ¬NextIsReset s → (∀ a b rest, s.inbox ≠ .memWrite a b :: rest) →
    t.mem = s.mem

/-! ### Reset (70_reset_and_hazards.md) -/

/-- R231: the values the spec gives for the state after reset, and what the host reads of it. -/
def Obligations.ResetLeavesTheStatedValues : Prop :=
  State.reset.ctrl = 0 ∧ State.reset.statusWord = 0 ∧ State.reset.errInfo = 0 ∧ State.reset.faultAddr = 0 ∧
  State.reset.progress = 0 ∧ State.reset.valid = 0 ∧ State.reset.svalid = 0 ∧ State.reset.phase = .idle ∧
  capsWord State.reset.cfg = 0x00040004

/-- R230, R231, R232: the reset input, in any phase. The cipher range of a running CRYPT is lost; every other byte of
memory stays. What the model does beyond these rules is log entry 14. -/
def Obligations.ResetEndsTheCommand : Prop :=
  ∀ (s : State) (rest : List Event), s.inbox = .reset :: rest →
    ∃ t, step s = .next t ∧
      t.ctrl = 0 ∧ t.statusWord = 0 ∧ t.errInfo = 0 ∧ t.faultAddr = 0 ∧ t.progress = 0 ∧ t.valid = 0 ∧ t.svalid = 0 ∧
      t.phase = .idle ∧ t.cfg = s.cfg ∧
      (s.cryptBusy = false → t.mem = s.mem) ∧
      (s.cryptBusy = true → ∀ a, (a < s.lCiph.toNat ∨ s.lCiph.toNat + s.lMlen.toNat ≤ a) →
        t.mem.byteAt a = s.mem.byteAt a)

/-! ### Whole-machine rules -/

/-- The block after reset meets the invariant. The values of log entry 4 play no part in it. -/
def Obligations.ResetMeetsTheInvariant : Prop := Inv State.reset

/-- R33, R34, R36, R37, R42, R43, R155, R160, R183 to R185: every step keeps the invariant. -/
def Obligations.StepKeepsTheInvariant : Prop :=
  ∀ s t : State, Inv s → step s = .next t → Inv t

/-- R48: the operand registers do not change during a command, short of a reset; the parameters never change (R8). -/
def Obligations.OperandsAndParametersStay : Prop :=
  ∀ s t : State, step s = .next t →
    t.cfg = s.cfg ∧ (s.busy = true → ¬NextIsReset s → t.operands = s.operands)

/-- R46, R73, R74, R195: while a command is BUSY, an act of the host other than a reset leaves the command alone, and the
bytes that a CRYPT works on as they are. -/
def Obligations.HostActsLeaveTheCommandAlone : Prop :=
  ∀ (s t : State) (e : Event) (rest : List Event), s.inbox = e :: rest → e ≠ .engine → e ≠ .reset → s.busy = true →
    step s = .next t →
    t = { s with
      inbox := rest, mem := t.mem, response := t.response, draws := t.draws, err := t.err, errCode := t.errCode,
      errInfo := t.errInfo } ∧
    (s.op = 4 → ∀ a,
      (s.lMsg.toNat ≤ a ∧ a < s.lMsg.toNat + s.lMlen.toNat ∨ s.lCiph.toNat ≤ a ∧ a < s.lCiph.toNat + s.lMlen.toNat) →
      t.mem.byteAt a = s.mem.byteAt a)

/-- R36, R37: only a reset clears a valid bit of an operand register, and only a reset or a bus-fault abort clears a
valid bit of a state word or KS_V, bit 18 of VALID (R233). -/
def Obligations.ValidBitsClearedOnlyByResetOrAbort : Prop :=
  ∀ (s t : State) (k : Nat), step s = .next t → ¬NextIsReset s →
    (k < 18 → s.valid.getLsbD k = true → t.valid.getLsbD k = true) ∧
    (s.valid.getLsbD 18 = true → t.valid.getLsbD 18 = true ∨
      (s.phase = .xor ∧ t.errCode = .bus ∧ t.valid.getLsbD 18 = false ∧ t.phase = .idle)) ∧
    (k < 16 → s.svalid.getLsbD k = true → t.svalid.getLsbD k = true ∨
      (s.phase = .xor ∧ t.errCode = .bus ∧ t.svalid = 0 ∧ t.phase = .idle))

/-- R207, R208: a report stays until an accept or a reset clears it whole or a newer report takes its place: the rejection
of a host write, which leaves FAULT_ADDR, or a bus-fault abort. -/
def Obligations.ReportStaysUntilAcceptOrReset : Prop :=
  ∀ s t : State, s.err = true → step s = .next t → ¬NextIsReset s →
    (t.err = false →
      s.phase = .idle ∧ t.phase = .start ∧ t.busy = true ∧ t.errCode = .noError ∧ t.errInfo = 0 ∧ t.faultAddr = 0) ∧
    (t.err = true →
      (t.errCode = s.errCode ∧ t.errInfo = s.errInfo ∧ t.faultAddr = s.faultAddr) ∨
      ((∃ addr size v rest, s.inbox = .busWrite addr size v :: rest) ∧
        t.errCode ≠ .noError ∧ t.errCode ≠ .bus ∧ t.faultAddr = s.faultAddr) ∨
      (s.phase = .xor ∧ t.errCode = .bus ∧ t.phase = .idle))

/-- R31: KS is written only by TRANSFORM, by a generation step of CRYPT and, to a free value, by a bus-fault abort. -/
def Obligations.KeystreamWrittenOnlyByTransformAndCrypt : Prop :=
  ∀ s t : State, Inv s → step s = .next t → ¬NextIsReset s → t.ks ≠ s.ks →
    (s.phase = .start ∧ s.op = 3 ∧ t.ks = salsaCore s.matrix ∧ t.valid.getLsbD 18 = true) ∨
    (s.phase = .gen ∧ s.op = 4 ∧ t.ks = salsaCore s.matrix ∧ t.valid.getLsbD 18 = true) ∨
    (s.phase = .xor ∧ t.errCode = .bus ∧ t.valid.getLsbD 18 = false)
end

