-- ==== Sys2Proof/Laws/Decode.lean ====
section
/-! SUPPORT. The fields of a command word, and the small laws of 64-bit halves. -/

namespace Sys2Proof

/-- A command word bit by bit (30_encoding.md R81). -/
theorem getLsbD_commandWord (op : BitVec 4) (var : BitVec 8) (k : Nat) : (commandWord op var).getLsbD k =
    if k < 4 then op.getLsbD k else if k < 8 then false else if k < 16 then var.getLsbD (k - 8) else false := by
  show BitVec.getLsbD (w := 16 + 8 + 4 + 4) (0#16 ++ var ++ 0#4 ++ op) k = _
  rw [BitVec.getLsbD_append, BitVec.getLsbD_append, BitVec.getLsbD_append]
  by_cases h1 : k < 4
  · simp [h1]
  by_cases h2 : k < 8
  · simp [h1, h2, show k - 4 < 4 by omega]
  by_cases h3 : k < 16
  · simp [h1, h2, h3, show ¬k - 4 < 4 by omega, show k - 8 < 8 by omega, show k - 4 - 4 = k - 8 by omega]
  · simp [h1, h2, h3, show ¬k - 4 < 4 by omega, show ¬k - 4 - 4 < 8 by omega]

@[simp] theorem opField_commandWord (op : BitVec 4) (var : BitVec 8) : opField (commandWord op var) = op := by
  apply BitVec.eq_of_getLsbD_eq
  intro k hk
  simp [opField, getLsbD_commandWord, hk]

@[simp] theorem res0Field_commandWord (op : BitVec 4) (var : BitVec 8) : res0Field (commandWord op var) = 0 := by
  apply BitVec.eq_of_getLsbD_eq
  intro k hk
  simp only [res0Field, BitVec.getLsbD_extractLsb', getLsbD_commandWord, if_neg (show ¬4 + k < 4 by omega),
    if_pos (show 4 + k < 8 by omega)]
  simp

@[simp] theorem varField_commandWord (op : BitVec 4) (var : BitVec 8) : varField (commandWord op var) = var := by
  apply BitVec.eq_of_getLsbD_eq
  intro k hk
  simp only [varField, BitVec.getLsbD_extractLsb', getLsbD_commandWord, if_neg (show ¬8 + k < 4 by omega),
    if_neg (show ¬8 + k < 8 by omega), if_pos (show 8 + k < 16 by omega), Nat.add_sub_cancel_left]
  simp [hk]

@[simp] theorem res1Field_commandWord (op : BitVec 4) (var : BitVec 8) : res1Field (commandWord op var) = 0 := by
  apply BitVec.eq_of_getLsbD_eq
  intro k hk
  simp only [res1Field, BitVec.getLsbD_extractLsb', getLsbD_commandWord, if_neg (show ¬16 + k < 4 by omega),
    if_neg (show ¬16 + k < 8 by omega), if_neg (show ¬16 + k < 16 by omega)]
  simp

/-- A word is determined by its four fields. -/
theorem word_eq_of_fields {w x : Word} (h0 : opField w = opField x) (h1 : res0Field w = res0Field x)
    (h2 : varField w = varField x) (h3 : res1Field w = res1Field x) : w = x := by
  have bit {n k b : Nat} {u v : Word} (h : u.extractLsb' b n = v.extractLsb' b n) (hk : k < n) :
      u.getLsbD (b + k) = v.getLsbD (b + k) := by
    have := congrArg (BitVec.getLsbD · k) h
    simpa [hk] using this
  apply BitVec.eq_of_getLsbD_eq
  intro k hk
  by_cases ha : k < 4
  · simpa using bit (k := k) h0 ha
  by_cases hb : k < 8
  · simpa [show 4 + (k - 4) = k by omega] using bit (k := k - 4) h1 (by omega)
  by_cases hc : k < 16
  · simpa [show 8 + (k - 8) = k by omega] using bit (k := k - 8) h2 (by omega)
  · simpa [show 16 + (k - 16) = k by omega] using bit (k := k - 16) h3 (by omega)

/-- `{hi, lo}` bit by bit (00_scope.md R10). -/
theorem DWord.getLsbD_ofHalves (hi lo : Word) (k : Nat) :
    (DWord.ofHalves hi lo).getLsbD k = if k < 32 then lo.getLsbD k else hi.getLsbD (k - 32) :=
  BitVec.getLsbD_append (x := hi) (y := lo) (i := k)

@[simp] theorem DWord.lo_ofHalves (hi lo : Word) : (DWord.ofHalves hi lo).lo = lo := by
  apply BitVec.eq_of_getLsbD_eq
  intro k hk
  simp [DWord.lo, DWord.getLsbD_ofHalves, hk]

@[simp] theorem DWord.hi_ofHalves (hi lo : Word) : (DWord.ofHalves hi lo).hi = hi := by
  apply BitVec.eq_of_getLsbD_eq
  intro k hk
  simp [DWord.hi, DWord.getLsbD_ofHalves, hk]

@[simp] theorem DWord.ofHalves_hi_lo (v : DWord) : DWord.ofHalves v.hi v.lo = v := by
  apply BitVec.eq_of_getLsbD_eq
  intro k hk
  rw [DWord.getLsbD_ofHalves]
  by_cases h : k < 32
  · simp [DWord.lo, h]
  · simp [DWord.hi, h, show k - 32 < 32 by omega, show 32 + (k - 32) = k by omega]

end Sys2Proof
end

