-- ==== Sys2Proof/Laws/Flags.lean ====
section
/-! SUPPORT. What each validity bit and each check at issue says, bit by bit and address by address. -/

namespace Sys2Proof

theorem Span.has_iff (r : Span) (a : Nat) : r.has a = true ↔ r.base ≤ a ∧ a < r.base + r.size := by
  simp [Span.has]

/-- Two ranges meet exactly when they share an address. -/
theorem Span.meets_iff (r q : Span) : r.meets q = true ↔ ∃ a, r.has a = true ∧ q.has a = true := by
  simp only [Span.meets, Span.has_iff, decide_eq_true_eq]
  constructor
  · intro h
    exact ⟨max r.base q.base, by omega, by omega⟩
  · rintro ⟨a, h1, h2⟩
    omega

namespace Machine

/-- A check that fails on `¬p` passes exactly when `p` holds. -/
theorem check_none {p : Prop} [Decidable p] (e : ErrCode × Word) : (if p then none else some e : Check) = none ↔ p := by
  split <;> simp_all

theorem getLsbD_setBit (w : Word) {k : Nat} (hk : k < 32) (j : Nat) :
    (setBit w k).getLsbD j = (w.getLsbD j || decide (j = k)) := by
  have h : decide (k = j) = decide (j = k) := by simp [eq_comm]
  simp [setBit, BitVec.getLsbD_or, BitVec.getLsbD_twoPow, hk, h]

@[simp] theorem variantCheck_none (var : Nat) : variantCheck var = none ↔ var < 4 :=
  check_none _

theorem and_mask_eq_mask_iff (w mask : Word) : w &&& mask = mask ↔ ∀ k, mask.getLsbD k = true → w.getLsbD k = true := by
  constructor
  · intro h k hk
    have := congrArg (BitVec.getLsbD · k) h
    simpa [hk] using this
  · intro h
    apply BitVec.eq_of_getLsbD_eq
    intro k _
    by_cases hk : mask.getLsbD k = true
    · simp [hk, h k hk]
    · simp [Bool.not_eq_true _ ▸ hk]

theorem and_not_eq_zero_iff (mask w : Word) : mask &&& ~~~w = 0 ↔ ∀ k, mask.getLsbD k = true → w.getLsbD k = true := by
  constructor
  · intro h k hk
    have hlt : k < 32 := BitVec.lt_of_getLsbD hk
    have := congrArg (BitVec.getLsbD · k) h
    simpa [hk, hlt] using this
  · intro h
    apply BitVec.eq_of_getLsbD_eq
    intro k hlt
    by_cases hk : mask.getLsbD k = true
    · simp [hk, h k hk]
    · simp [Bool.not_eq_true _ ▸ hk]

theorem and_eq_zero_iff (w mask : Word) : w &&& mask = 0 ↔ ∀ k, mask.getLsbD k = true → w.getLsbD k = false := by
  constructor
  · intro h k hk
    have := congrArg (BitVec.getLsbD · k) h
    simpa [hk] using this
  · intro h
    apply BitVec.eq_of_getLsbD_eq
    intro k _
    by_cases hk : mask.getLsbD k = true
    · simp [hk, h k hk]
    · simp [Bool.not_eq_true _ ▸ hk]

theorem keyCheck_none (s : State) : keyCheck s = none ↔ ∀ k, k < 8 → s.valid.getLsbD k = true := by
  have hm : ∀ k, (0xFF : Word).getLsbD k = true ↔ k < 8 := by
    intro k
    by_cases hk : k < 32
    · revert hk
      revert k
      decide
    · have h8 : ¬k < 8 := by omega
      simp [h8, BitVec.getLsbD_of_ge _ _ (Nat.le_of_not_lt hk)]
  rw [keyCheck, check_none, and_mask_eq_mask_iff]
  simp only [hm]

theorem operandCheck_none (required : Word) (s : State) :
    operandCheck required s = none ↔ ∀ k, required.getLsbD k = true → s.valid.getLsbD k = true := by
  rw [operandCheck, check_none, and_not_eq_zero_iff]

theorem stateCheck_none (s : State) : stateCheck s = none ↔ s.svalid = allStateValid :=
  check_none _

theorem rangeCheck_none (s : State) : rangeCheck s = none ↔
    s.operands.msg.toNat + s.operands.mlen.toNat ≤ 2 ^ s.cfg.addrWidth ∧
    s.operands.ciph.toNat + s.operands.mlen.toNat ≤ 2 ^ s.cfg.addrWidth := by
  simp only [rangeCheck]
  split
  · simp_all; omega
  · simp_all

theorem overlapCheck_none (s : State) : overlapCheck s = none ↔
    (s.operands.msg ≠ s.operands.ciph → ∀ a,
      ¬((messageRange s.operands.msg s.operands.mlen).has a = true ∧
        (cipherRange s.operands.ciph s.operands.mlen).has a = true)) := by
  simp only [overlapCheck, ← not_exists, ← Span.meets_iff]
  split
  · next h => simp [h]
  · next h => simpa using h

/-- A list of checks passes exactly when each of them does. -/
theorem firstFailure_none (l : List Check) : firstFailure l = none ↔ ∀ c ∈ l, c = none := by
  induction l with
  | nil => simp [firstFailure]
  | cons c l ih => cases c <;> simp [firstFailure, ih]

theorem firstFailure_mem {l : List Check} {e : ErrCode × Word} (h : firstFailure l = some e) : some e ∈ l := by
  induction l with
  | nil => simp [firstFailure] at h
  | cons c l ih =>
    cases c with
    | none => exact List.mem_cons_of_mem _ (ih h)
    | some d => simp only [firstFailure] at h; simp [h]

/-- No check reports NONE or BUS (60_exceptions.md R200, R203). -/
theorem firstFailure_code {i : Instr} {s : State} {k : ErrCode} {d : Word}
    (h : firstFailure (checksOf i s) = some (k, d)) : k ≠ .noError ∧ k ≠ .bus := by
  have hm := firstFailure_mem h
  have hv (v : Nat) (h : some (k, d) = variantCheck v) : k ≠ .noError ∧ k ≠ .bus := by
    simp only [variantCheck] at h; split at h <;> simp_all
  have hk (h : some (k, d) = keyCheck s) : k ≠ .noError ∧ k ≠ .bus := by
    simp only [keyCheck] at h; split at h <;> simp_all
  have ho (m : Word) (h : some (k, d) = operandCheck m s) : k ≠ .noError ∧ k ≠ .bus := by
    simp only [operandCheck] at h; split at h <;> simp_all
  have hs (h : some (k, d) = stateCheck s) : k ≠ .noError ∧ k ≠ .bus := by
    simp only [stateCheck] at h; split at h <;> simp_all
  have hr (h : some (k, d) = rangeCheck s) : k ≠ .noError ∧ k ≠ .bus := by
    simp only [rangeCheck] at h; split at h <;> simp_all
  have hl (h : some (k, d) = overlapCheck s) : k ≠ .noError ∧ k ≠ .bus := by
    simp only [overlapCheck] at h; split at h <;> simp_all
  cases i with
  | nop => simp [checksOf] at hm
  | buildState =>
    simp only [checksOf, buildStateChecks, List.mem_cons, List.not_mem_nil, or_false] at hm
    exact hm.elim hk (ho _)
  | setCounter =>
    simp only [checksOf, setCounterChecks, List.mem_cons, List.not_mem_nil, or_false] at hm
    exact ho _ hm
  | transform v =>
    simp only [checksOf, transformChecks, List.mem_cons, List.not_mem_nil, or_false] at hm
    exact hm.elim (hv _) hs
  | crypt v =>
    simp only [checksOf, cryptChecks, List.mem_cons, List.not_mem_nil, or_false] at hm
    rcases hm with h | h | h | h | h
    exacts [hv _ h, hk h, ho _ h, hr h, hl h]

end Machine

end Sys2Proof
end

