-- ==== Sys2Proof/Laws/Memory.lean ====
section
/-! SUPPORT. The laws of the data address space: a read after a write, and the canonical form. -/

namespace Sys2Proof.Machine

@[simp] theorem Memory.read_write_same (m : Memory) (a : Nat) (v : Byte) : (m.write a v).read a = some v := by
  induction m with
  | nil => simp [Memory.write, Memory.read]
  | cons c m ih =>
    obtain ⟨b, w⟩ := c
    simp only [Memory.write]
    split
    · simp [Memory.read]
    · split
      · simp [Memory.read]
      · simp [Memory.read, *]

theorem Memory.read_write_other (m : Memory) {a b : Nat} (v : Byte) (h : b ≠ a) : (m.write a v).read b = m.read b := by
  induction m with
  | nil => simp [Memory.write, Memory.read, h]
  | cons c m ih =>
    obtain ⟨d, w⟩ := c
    simp only [Memory.write]
    split
    · simp [Memory.read, h]
    · split
      · next e => subst e; simp [Memory.read, h]
      · simp [Memory.read, ih]

@[simp] theorem Memory.byteAt_write_same (m : Memory) (a : Nat) (v : Byte) : (m.write a v).byteAt a = v := by
  simp [Memory.byteAt]

theorem Memory.byteAt_write_other (m : Memory) {a b : Nat} (v : Byte) (h : b ≠ a) :
    (m.write a v).byteAt b = m.byteAt b := by
  simp [Memory.byteAt, Memory.read_write_other m v h]

/-- A canonical list with one more cell in front is canonical when that cell lies below all of it. -/
theorem Memory.wf_cons {a : Nat} {v : Byte} {m : Memory} :
    Memory.wf ((a, v) :: m) = true ↔ (∀ c ∈ m, a < c.1) ∧ m.wf = true := by
  induction m generalizing a v with
  | nil => simp [Memory.wf]
  | cons c m ih =>
    obtain ⟨b, w⟩ := c
    simp only [Memory.wf, Bool.and_eq_true, decide_eq_true_eq, List.mem_cons, forall_eq_or_imp]
    constructor
    · rintro ⟨hab, h⟩
      exact ⟨⟨hab, fun c hc => lt_trans hab ((ih.1 h).1 c hc)⟩, h⟩
    · rintro ⟨⟨hab, -⟩, h⟩
      exact ⟨hab, h⟩

theorem Memory.mem_write {m : Memory} {a : Nat} {v : Byte} {c : Host.Cell} (h : c ∈ m.write a v) :
    c = (a, v) ∨ c ∈ m := by
  induction m with
  | nil => simpa [Memory.write] using h
  | cons d m ih =>
    obtain ⟨b, w⟩ := d
    simp only [Memory.write] at h
    split at h
    · simpa using h
    · split at h
      · rcases List.mem_cons.1 h with h | h
        · exact .inl h
        · exact .inr (List.mem_cons_of_mem _ h)
      · rcases List.mem_cons.1 h with h | h
        · exact .inr (h ▸ List.mem_cons_self ..)
        · exact (ih h).imp_right (List.mem_cons_of_mem _)

theorem Memory.wf_write {m : Memory} (a : Nat) (v : Byte) (h : m.wf = true) : (m.write a v).wf = true := by
  induction m with
  | nil => rfl
  | cons d m ih =>
    obtain ⟨b, w⟩ := d
    obtain ⟨hb, hm⟩ := Memory.wf_cons.1 h
    simp only [Memory.write]
    split
    · next hab =>
      refine Memory.wf_cons.2 ⟨fun c hc => ?_, h⟩
      rcases List.mem_cons.1 hc with rfl | hc
      · exact hab
      · exact lt_trans hab (hb c hc)
    · split
      · next e => subst e; exact Memory.wf_cons.2 ⟨hb, hm⟩
      · next h1 h2 =>
        refine Memory.wf_cons.2 ⟨fun c hc => ?_, ih hm⟩
        rcases Memory.mem_write hc with rfl | hc
        · show b < a
          omega
        · exact hb c hc

theorem Memory.below_write {m : Memory} {a top : Nat} (v : Byte) (ha : a < top) (h : m.below top = true) :
    (m.write a v).below top = true := by
  simp only [Memory.below, List.all_eq_true, decide_eq_true_eq] at h ⊢
  intro c hc
  rcases Memory.mem_write hc with rfl | hc
  · exact ha
  · exact h c hc

theorem Memory.read_scramble_other {a : Nat} (n : Nat) (m : Memory) (base k : Nat) (h : a < base ∨ base + n ≤ a) :
    (m.scramble base n k).read a = m.read a := by
  induction n generalizing m base k with
  | zero => rfl
  | succ n ih =>
    rw [Memory.scramble, ih _ _ _ (by omega), Memory.read_write_other _ _ (by omega)]

theorem Memory.byteAt_scramble_other {a : Nat} (n : Nat) (m : Memory) (base k : Nat) (h : a < base ∨ base + n ≤ a) :
    (m.scramble base n k).byteAt a = m.byteAt a := by
  simp [Memory.byteAt, Memory.read_scramble_other n m base k h]

theorem Memory.byteAt_scramble (n : Nat) (m : Memory) (base k : Nat) {j : Nat} (h : j < n) :
    (m.scramble base n k).byteAt (base + j) = Config.freeByte (k + j) := by
  induction n generalizing m base k j with
  | zero => omega
  | succ n ih =>
    rw [Memory.scramble]
    cases j with
    | zero =>
      rw [Memory.byteAt_scramble_other _ _ _ _ (by omega)]
      simp
    | succ j =>
      rw [show base + (j + 1) = base + 1 + j by omega, ih _ _ _ (by omega)]
      congr 1
      omega

theorem Memory.wf_scramble (n : Nat) {m : Memory} (base k : Nat) (h : m.wf = true) :
    (m.scramble base n k).wf = true := by
  induction n generalizing m base k with
  | zero => exact h
  | succ n ih => exact ih _ _ (Memory.wf_write _ _ h)

theorem Memory.below_scramble (n : Nat) {m : Memory} {top : Nat} (base k : Nat) (hn : base + n ≤ top)
    (h : m.below top = true) : (m.scramble base n k).below top = true := by
  induction n generalizing m base k with
  | zero => exact h
  | succ n ih => exact ih _ _ (by omega) (Memory.below_write _ (by omega) h)

theorem State.reset_mem_wf : State.reset.mem.wf = true := rfl

end Sys2Proof.Machine
end

