-- ==== Sys2Proof/Laws/PerInstr.lean ====
section
/-! SUPPORT. One lemma per command: its word matches its own row of the opcode map (30_encoding.md R85). -/

namespace Sys2Proof.Laws.TableRow

/-- Every variant that the field can hold keeps the other bits of a TRANSFORM or CRYPT word as the row has them. -/
theorem var_bits (op : BitVec 4) (v : BitVec 8) : commandWord op v &&& 0xFFFF00FF = op.setWidth 32 := by
  apply BitVec.eq_of_getLsbD_eq
  intro k hk
  have hm : ∀ k, k < 32 → (0xFFFF00FF : Word).getLsbD k = (decide (k < 8) || decide (16 ≤ k)) := by decide
  rw [BitVec.getLsbD_and, getLsbD_commandWord, hm k hk, BitVec.getLsbD_setWidth]
  by_cases h4 : k < 4
  · simp [h4, hk, show k < 8 by omega]
  · have : op.getLsbD k = false := BitVec.getLsbD_of_ge _ _ (by omega)
    by_cases h8 : k < 8
    · simp [h4, h8, this]
    · by_cases h16 : k < 16
      · simp [h4, h8, h16, this]
      · simp [h4, h8, h16, this]

/-- The mask of the row of a command. -/
def mask : Instr → Word
  | .nop => 0xFFFFFFFF
  | .buildState => 0xFFFFFFFF
  | .setCounter => 0xFFFFFFFF
  | .transform _ => 0xFFFF00FF
  | .crypt _ => 0xFFFF00FF

/-- The match value of the row of a command. -/
def value : Instr → Word
  | .nop => 0x00000000
  | .buildState => 0x00000001
  | .setCounter => 0x00000002
  | .transform _ => 0x00000003
  | .crypt _ => 0x00000004

/-- The word of the command matches its row, and no other row. -/
def Statement (i : Instr) : Prop :=
  encode i &&& mask i = value i ∧ ∀ j, encode i &&& mask j = value j → value j = value i

theorem other_row {w : Word} {op : BitVec 4} (h : w &&& 0xF = op.setWidth 32) (j : Instr) (hj : w &&& mask j = value j) :
    value j = op.setWidth 32 := by
  have hm : mask j &&& 0xF = 0xF := by cases j <;> (simp only [mask]; decide)
  have hv : value j &&& 0xF = value j := by cases j <;> (simp only [value]; decide)
  rw [← hv, ← hj, BitVec.and_assoc, hm, h]

theorem op_bits (i : Instr) : encode i &&& 0xF = i.op.setWidth 32 := by
  have h := var_bits i.op i.var
  have hm : (0xFFFF00FF : Word) &&& 0xF = 0xF := by decide
  have hw : ∀ b : BitVec 4, b.setWidth 32 &&& (0xF : Word) = b.setWidth 32 := by decide
  rw [← hm, ← BitVec.and_assoc, encode, h, hw]

theorem nop : Statement .nop := ⟨by decide, fun j => other_row (op_bits .nop) j⟩

theorem buildState : Statement .buildState := ⟨by decide, fun j => other_row (op_bits .buildState) j⟩

theorem setCounter : Statement .setCounter := ⟨by decide, fun j => other_row (op_bits .setCounter) j⟩

theorem transform (var : Nat) : Statement (.transform var) :=
  ⟨var_bits 3 _, fun j => other_row (op_bits (.transform var)) j⟩

theorem crypt (var : Nat) : Statement (.crypt var) :=
  ⟨var_bits 4 _, fun j => other_row (op_bits (.crypt var)) j⟩

end Sys2Proof.Laws.TableRow
end

