-- ==== Sys2Proof/Laws/State.lean ====
section
/-! SUPPORT. What each update of State does to each field: one lemma per field per update. -/

namespace Sys2Proof.Machine

/-! ### report -/

@[simp] theorem State.report_cfg (s : State) (k : ErrCode) (d : Word) : (s.report k d).cfg = s.cfg := rfl
@[simp] theorem State.report_ctrl (s : State) (k : ErrCode) (d : Word) : (s.report k d).ctrl = s.ctrl := rfl
@[simp] theorem State.report_busy (s : State) (k : ErrCode) (d : Word) : (s.report k d).busy = s.busy := rfl
@[simp] theorem State.report_done (s : State) (k : ErrCode) (d : Word) : (s.report k d).done = s.done := rfl
@[simp] theorem State.report_err (s : State) (k : ErrCode) (d : Word) : (s.report k d).err = true := rfl
@[simp] theorem State.report_errCode (s : State) (k : ErrCode) (d : Word) : (s.report k d).errCode = k := rfl
@[simp] theorem State.report_errInfo (s : State) (k : ErrCode) (d : Word) : (s.report k d).errInfo = d := rfl
@[simp] theorem State.report_valid (s : State) (k : ErrCode) (d : Word) : (s.report k d).valid = s.valid := rfl
@[simp] theorem State.report_svalid (s : State) (k : ErrCode) (d : Word) : (s.report k d).svalid = s.svalid := rfl
@[simp] theorem State.report_faultAddr (s : State) (k : ErrCode) (d : Word) : (s.report k d).faultAddr = s.faultAddr := rfl
@[simp] theorem State.report_progress (s : State) (k : ErrCode) (d : Word) : (s.report k d).progress = s.progress := rfl
@[simp] theorem State.report_operands (s : State) (k : ErrCode) (d : Word) : (s.report k d).operands = s.operands := rfl
@[simp] theorem State.report_matrix (s : State) (k : ErrCode) (d : Word) : (s.report k d).matrix = s.matrix := rfl
@[simp] theorem State.report_ks (s : State) (k : ErrCode) (d : Word) : (s.report k d).ks = s.ks := rfl
@[simp] theorem State.report_phase (s : State) (k : ErrCode) (d : Word) : (s.report k d).phase = s.phase := rfl
@[simp] theorem State.report_op (s : State) (k : ErrCode) (d : Word) : (s.report k d).op = s.op := rfl
@[simp] theorem State.report_var (s : State) (k : ErrCode) (d : Word) : (s.report k d).var = s.var := rfl
@[simp] theorem State.report_lMlen (s : State) (k : ErrCode) (d : Word) : (s.report k d).lMlen = s.lMlen := rfl
@[simp] theorem State.report_lMsg (s : State) (k : ErrCode) (d : Word) : (s.report k d).lMsg = s.lMsg := rfl
@[simp] theorem State.report_lCiph (s : State) (k : ErrCode) (d : Word) : (s.report k d).lCiph = s.lCiph := rfl
@[simp] theorem State.report_ctr (s : State) (k : ErrCode) (d : Word) : (s.report k d).ctr = s.ctr := rfl
@[simp] theorem State.report_mem (s : State) (k : ErrCode) (d : Word) : (s.report k d).mem = s.mem := rfl
@[simp] theorem State.report_unseen (s : State) (k : ErrCode) (d : Word) : (s.report k d).unseen = s.unseen := rfl
@[simp] theorem State.report_inbox (s : State) (k : ErrCode) (d : Word) : (s.report k d).inbox = s.inbox := rfl
@[simp] theorem State.report_response (s : State) (k : ErrCode) (d : Word) : (s.report k d).response = s.response := rfl
@[simp] theorem State.report_draws (s : State) (k : ErrCode) (d : Word) : (s.report k d).draws = s.draws := rfl

/-! ### clearReport -/

@[simp] theorem State.clearReport_cfg (s : State) : (s.clearReport).cfg = s.cfg := rfl
@[simp] theorem State.clearReport_ctrl (s : State) : (s.clearReport).ctrl = s.ctrl := rfl
@[simp] theorem State.clearReport_busy (s : State) : (s.clearReport).busy = s.busy := rfl
@[simp] theorem State.clearReport_done (s : State) : (s.clearReport).done = s.done := rfl
@[simp] theorem State.clearReport_err (s : State) : (s.clearReport).err = false := rfl
@[simp] theorem State.clearReport_errCode (s : State) : (s.clearReport).errCode = .noError := rfl
@[simp] theorem State.clearReport_errInfo (s : State) : (s.clearReport).errInfo = 0 := rfl
@[simp] theorem State.clearReport_valid (s : State) : (s.clearReport).valid = s.valid := rfl
@[simp] theorem State.clearReport_svalid (s : State) : (s.clearReport).svalid = s.svalid := rfl
@[simp] theorem State.clearReport_faultAddr (s : State) : (s.clearReport).faultAddr = 0 := rfl
@[simp] theorem State.clearReport_progress (s : State) : (s.clearReport).progress = s.progress := rfl
@[simp] theorem State.clearReport_operands (s : State) : (s.clearReport).operands = s.operands := rfl
@[simp] theorem State.clearReport_matrix (s : State) : (s.clearReport).matrix = s.matrix := rfl
@[simp] theorem State.clearReport_ks (s : State) : (s.clearReport).ks = s.ks := rfl
@[simp] theorem State.clearReport_phase (s : State) : (s.clearReport).phase = s.phase := rfl
@[simp] theorem State.clearReport_op (s : State) : (s.clearReport).op = s.op := rfl
@[simp] theorem State.clearReport_var (s : State) : (s.clearReport).var = s.var := rfl
@[simp] theorem State.clearReport_lMlen (s : State) : (s.clearReport).lMlen = s.lMlen := rfl
@[simp] theorem State.clearReport_lMsg (s : State) : (s.clearReport).lMsg = s.lMsg := rfl
@[simp] theorem State.clearReport_lCiph (s : State) : (s.clearReport).lCiph = s.lCiph := rfl
@[simp] theorem State.clearReport_ctr (s : State) : (s.clearReport).ctr = s.ctr := rfl
@[simp] theorem State.clearReport_mem (s : State) : (s.clearReport).mem = s.mem := rfl
@[simp] theorem State.clearReport_unseen (s : State) : (s.clearReport).unseen = s.unseen := rfl
@[simp] theorem State.clearReport_inbox (s : State) : (s.clearReport).inbox = s.inbox := rfl
@[simp] theorem State.clearReport_response (s : State) : (s.clearReport).response = s.response := rfl
@[simp] theorem State.clearReport_draws (s : State) : (s.clearReport).draws = s.draws := rfl

/-! ### accept -/

@[simp] theorem State.accept_cfg (s : State) (w : Word) : (s.accept w).cfg = s.cfg := rfl
@[simp] theorem State.accept_ctrl (s : State) (w : Word) : (s.accept w).ctrl = w := rfl
@[simp] theorem State.accept_busy (s : State) (w : Word) : (s.accept w).busy = true := rfl
@[simp] theorem State.accept_done (s : State) (w : Word) : (s.accept w).done = false := rfl
@[simp] theorem State.accept_err (s : State) (w : Word) : (s.accept w).err = false := rfl
@[simp] theorem State.accept_errCode (s : State) (w : Word) : (s.accept w).errCode = .noError := rfl
@[simp] theorem State.accept_errInfo (s : State) (w : Word) : (s.accept w).errInfo = 0 := rfl
@[simp] theorem State.accept_valid (s : State) (w : Word) : (s.accept w).valid = s.valid := rfl
@[simp] theorem State.accept_svalid (s : State) (w : Word) : (s.accept w).svalid = s.svalid := rfl
@[simp] theorem State.accept_faultAddr (s : State) (w : Word) : (s.accept w).faultAddr = 0 := rfl
@[simp] theorem State.accept_progress (s : State) (w : Word) : (s.accept w).progress = s.progress := rfl
@[simp] theorem State.accept_operands (s : State) (w : Word) : (s.accept w).operands = s.operands := rfl
@[simp] theorem State.accept_matrix (s : State) (w : Word) : (s.accept w).matrix = s.matrix := rfl
@[simp] theorem State.accept_ks (s : State) (w : Word) : (s.accept w).ks = s.ks := rfl
@[simp] theorem State.accept_phase (s : State) (w : Word) : (s.accept w).phase = .start := rfl
@[simp] theorem State.accept_op (s : State) (w : Word) : (s.accept w).op = opField w := rfl
@[simp] theorem State.accept_var (s : State) (w : Word) : (s.accept w).var = varField w := rfl
@[simp] theorem State.accept_lMlen (s : State) (w : Word) : (s.accept w).lMlen = s.lMlen := rfl
@[simp] theorem State.accept_lMsg (s : State) (w : Word) : (s.accept w).lMsg = s.lMsg := rfl
@[simp] theorem State.accept_lCiph (s : State) (w : Word) : (s.accept w).lCiph = s.lCiph := rfl
@[simp] theorem State.accept_ctr (s : State) (w : Word) : (s.accept w).ctr = s.ctr := rfl
@[simp] theorem State.accept_mem (s : State) (w : Word) : (s.accept w).mem = s.mem := rfl
@[simp] theorem State.accept_unseen (s : State) (w : Word) : (s.accept w).unseen = s.unseen := rfl
@[simp] theorem State.accept_inbox (s : State) (w : Word) : (s.accept w).inbox = s.inbox := rfl
@[simp] theorem State.accept_response (s : State) (w : Word) : (s.accept w).response = s.response := rfl
@[simp] theorem State.accept_draws (s : State) (w : Word) : (s.accept w).draws = s.draws := rfl

/-! ### latchCrypt -/

@[simp] theorem State.latchCrypt_cfg (s : State) : (s.latchCrypt).cfg = s.cfg := rfl
@[simp] theorem State.latchCrypt_ctrl (s : State) : (s.latchCrypt).ctrl = s.ctrl := rfl
@[simp] theorem State.latchCrypt_busy (s : State) : (s.latchCrypt).busy = s.busy := rfl
@[simp] theorem State.latchCrypt_done (s : State) : (s.latchCrypt).done = s.done := rfl
@[simp] theorem State.latchCrypt_err (s : State) : (s.latchCrypt).err = s.err := rfl
@[simp] theorem State.latchCrypt_errCode (s : State) : (s.latchCrypt).errCode = s.errCode := rfl
@[simp] theorem State.latchCrypt_errInfo (s : State) : (s.latchCrypt).errInfo = s.errInfo := rfl
@[simp] theorem State.latchCrypt_valid (s : State) : (s.latchCrypt).valid = s.valid := rfl
@[simp] theorem State.latchCrypt_svalid (s : State) : (s.latchCrypt).svalid = s.svalid := rfl
@[simp] theorem State.latchCrypt_faultAddr (s : State) : (s.latchCrypt).faultAddr = s.faultAddr := rfl
@[simp] theorem State.latchCrypt_progress (s : State) : (s.latchCrypt).progress = 0 := rfl
@[simp] theorem State.latchCrypt_operands (s : State) : (s.latchCrypt).operands = s.operands := rfl
@[simp] theorem State.latchCrypt_matrix (s : State) : (s.latchCrypt).matrix = s.matrix := rfl
@[simp] theorem State.latchCrypt_ks (s : State) : (s.latchCrypt).ks = s.ks := rfl
@[simp] theorem State.latchCrypt_phase (s : State) : (s.latchCrypt).phase = s.phase := rfl
@[simp] theorem State.latchCrypt_op (s : State) : (s.latchCrypt).op = s.op := rfl
@[simp] theorem State.latchCrypt_var (s : State) : (s.latchCrypt).var = s.var := rfl
@[simp] theorem State.latchCrypt_lMlen (s : State) : (s.latchCrypt).lMlen = s.operands.mlen := rfl
@[simp] theorem State.latchCrypt_lMsg (s : State) : (s.latchCrypt).lMsg = s.operands.msg := rfl
@[simp] theorem State.latchCrypt_lCiph (s : State) : (s.latchCrypt).lCiph = s.operands.ciph := rfl
@[simp] theorem State.latchCrypt_ctr (s : State) : (s.latchCrypt).ctr = s.ctr := rfl
@[simp] theorem State.latchCrypt_mem (s : State) : (s.latchCrypt).mem = s.mem := rfl
@[simp] theorem State.latchCrypt_unseen (s : State) : (s.latchCrypt).unseen = s.unseen := rfl
@[simp] theorem State.latchCrypt_inbox (s : State) : (s.latchCrypt).inbox = s.inbox := rfl
@[simp] theorem State.latchCrypt_response (s : State) : (s.latchCrypt).response = s.response := rfl
@[simp] theorem State.latchCrypt_draws (s : State) : (s.latchCrypt).draws = s.draws := rfl

/-! ### finish -/

@[simp] theorem State.finish_cfg (s : State) : (s.finish).cfg = s.cfg := rfl
@[simp] theorem State.finish_ctrl (s : State) : (s.finish).ctrl = s.ctrl := rfl
@[simp] theorem State.finish_busy (s : State) : (s.finish).busy = false := rfl
@[simp] theorem State.finish_done (s : State) : (s.finish).done = true := rfl
@[simp] theorem State.finish_err (s : State) : (s.finish).err = s.err := rfl
@[simp] theorem State.finish_errCode (s : State) : (s.finish).errCode = s.errCode := rfl
@[simp] theorem State.finish_errInfo (s : State) : (s.finish).errInfo = s.errInfo := rfl
@[simp] theorem State.finish_valid (s : State) : (s.finish).valid = s.valid := rfl
@[simp] theorem State.finish_svalid (s : State) : (s.finish).svalid = s.svalid := rfl
@[simp] theorem State.finish_faultAddr (s : State) : (s.finish).faultAddr = s.faultAddr := rfl
@[simp] theorem State.finish_progress (s : State) : (s.finish).progress = s.progress := rfl
@[simp] theorem State.finish_operands (s : State) : (s.finish).operands = s.operands := rfl
@[simp] theorem State.finish_matrix (s : State) : (s.finish).matrix = s.matrix := rfl
@[simp] theorem State.finish_ks (s : State) : (s.finish).ks = s.ks := rfl
@[simp] theorem State.finish_phase (s : State) : (s.finish).phase = .idle := rfl
@[simp] theorem State.finish_op (s : State) : (s.finish).op = s.op := rfl
@[simp] theorem State.finish_var (s : State) : (s.finish).var = s.var := rfl
@[simp] theorem State.finish_lMlen (s : State) : (s.finish).lMlen = s.lMlen := rfl
@[simp] theorem State.finish_lMsg (s : State) : (s.finish).lMsg = s.lMsg := rfl
@[simp] theorem State.finish_lCiph (s : State) : (s.finish).lCiph = s.lCiph := rfl
@[simp] theorem State.finish_ctr (s : State) : (s.finish).ctr = s.ctr := rfl
@[simp] theorem State.finish_mem (s : State) : (s.finish).mem = s.mem := rfl
@[simp] theorem State.finish_unseen (s : State) : (s.finish).unseen = s.unseen := rfl
@[simp] theorem State.finish_inbox (s : State) : (s.finish).inbox = s.inbox := rfl
@[simp] theorem State.finish_response (s : State) : (s.finish).response = s.response := rfl
@[simp] theorem State.finish_draws (s : State) : (s.finish).draws = s.draws := rfl

/-! ### writeOperand -/

@[simp] theorem State.writeOperand_cfg (s : State) (r : OperandReg) (v : Word) : (s.writeOperand r v).cfg = s.cfg := rfl
@[simp] theorem State.writeOperand_ctrl (s : State) (r : OperandReg) (v : Word) : (s.writeOperand r v).ctrl = s.ctrl := rfl
@[simp] theorem State.writeOperand_busy (s : State) (r : OperandReg) (v : Word) : (s.writeOperand r v).busy = s.busy := rfl
@[simp] theorem State.writeOperand_done (s : State) (r : OperandReg) (v : Word) : (s.writeOperand r v).done = s.done := rfl
@[simp] theorem State.writeOperand_err (s : State) (r : OperandReg) (v : Word) : (s.writeOperand r v).err = s.err := rfl
@[simp] theorem State.writeOperand_errCode (s : State) (r : OperandReg) (v : Word) : (s.writeOperand r v).errCode = s.errCode := rfl
@[simp] theorem State.writeOperand_errInfo (s : State) (r : OperandReg) (v : Word) : (s.writeOperand r v).errInfo = s.errInfo := rfl
@[simp] theorem State.writeOperand_valid (s : State) (r : OperandReg) (v : Word) : (s.writeOperand r v).valid = setBit s.valid r.validBit := rfl
@[simp] theorem State.writeOperand_svalid (s : State) (r : OperandReg) (v : Word) : (s.writeOperand r v).svalid = s.svalid := rfl
@[simp] theorem State.writeOperand_faultAddr (s : State) (r : OperandReg) (v : Word) : (s.writeOperand r v).faultAddr = s.faultAddr := rfl
@[simp] theorem State.writeOperand_progress (s : State) (r : OperandReg) (v : Word) : (s.writeOperand r v).progress = s.progress := rfl
@[simp] theorem State.writeOperand_operands (s : State) (r : OperandReg) (v : Word) : (s.writeOperand r v).operands = s.operands.set r v := rfl
@[simp] theorem State.writeOperand_matrix (s : State) (r : OperandReg) (v : Word) : (s.writeOperand r v).matrix = s.matrix := rfl
@[simp] theorem State.writeOperand_ks (s : State) (r : OperandReg) (v : Word) : (s.writeOperand r v).ks = s.ks := rfl
@[simp] theorem State.writeOperand_phase (s : State) (r : OperandReg) (v : Word) : (s.writeOperand r v).phase = s.phase := rfl
@[simp] theorem State.writeOperand_op (s : State) (r : OperandReg) (v : Word) : (s.writeOperand r v).op = s.op := rfl
@[simp] theorem State.writeOperand_var (s : State) (r : OperandReg) (v : Word) : (s.writeOperand r v).var = s.var := rfl
@[simp] theorem State.writeOperand_lMlen (s : State) (r : OperandReg) (v : Word) : (s.writeOperand r v).lMlen = s.lMlen := rfl
@[simp] theorem State.writeOperand_lMsg (s : State) (r : OperandReg) (v : Word) : (s.writeOperand r v).lMsg = s.lMsg := rfl
@[simp] theorem State.writeOperand_lCiph (s : State) (r : OperandReg) (v : Word) : (s.writeOperand r v).lCiph = s.lCiph := rfl
@[simp] theorem State.writeOperand_ctr (s : State) (r : OperandReg) (v : Word) : (s.writeOperand r v).ctr = s.ctr := rfl
@[simp] theorem State.writeOperand_mem (s : State) (r : OperandReg) (v : Word) : (s.writeOperand r v).mem = s.mem := rfl
@[simp] theorem State.writeOperand_unseen (s : State) (r : OperandReg) (v : Word) : (s.writeOperand r v).unseen = s.unseen := rfl
@[simp] theorem State.writeOperand_inbox (s : State) (r : OperandReg) (v : Word) : (s.writeOperand r v).inbox = s.inbox := rfl
@[simp] theorem State.writeOperand_response (s : State) (r : OperandReg) (v : Word) : (s.writeOperand r v).response = s.response := rfl
@[simp] theorem State.writeOperand_draws (s : State) (r : OperandReg) (v : Word) : (s.writeOperand r v).draws = s.draws := rfl

/-! ### writeStateWord -/

@[simp] theorem State.writeStateWord_cfg (s : State) (i : Fin 16) (v : Word) : (s.writeStateWord i v).cfg = s.cfg := rfl
@[simp] theorem State.writeStateWord_ctrl (s : State) (i : Fin 16) (v : Word) : (s.writeStateWord i v).ctrl = s.ctrl := rfl
@[simp] theorem State.writeStateWord_busy (s : State) (i : Fin 16) (v : Word) : (s.writeStateWord i v).busy = s.busy := rfl
@[simp] theorem State.writeStateWord_done (s : State) (i : Fin 16) (v : Word) : (s.writeStateWord i v).done = s.done := rfl
@[simp] theorem State.writeStateWord_err (s : State) (i : Fin 16) (v : Word) : (s.writeStateWord i v).err = s.err := rfl
@[simp] theorem State.writeStateWord_errCode (s : State) (i : Fin 16) (v : Word) : (s.writeStateWord i v).errCode = s.errCode := rfl
@[simp] theorem State.writeStateWord_errInfo (s : State) (i : Fin 16) (v : Word) : (s.writeStateWord i v).errInfo = s.errInfo := rfl
@[simp] theorem State.writeStateWord_valid (s : State) (i : Fin 16) (v : Word) : (s.writeStateWord i v).valid = s.valid := rfl
@[simp] theorem State.writeStateWord_svalid (s : State) (i : Fin 16) (v : Word) : (s.writeStateWord i v).svalid = setBit s.svalid i.val := rfl
@[simp] theorem State.writeStateWord_faultAddr (s : State) (i : Fin 16) (v : Word) : (s.writeStateWord i v).faultAddr = s.faultAddr := rfl
@[simp] theorem State.writeStateWord_progress (s : State) (i : Fin 16) (v : Word) : (s.writeStateWord i v).progress = s.progress := rfl
@[simp] theorem State.writeStateWord_operands (s : State) (i : Fin 16) (v : Word) : (s.writeStateWord i v).operands = s.operands := rfl
@[simp] theorem State.writeStateWord_matrix (s : State) (i : Fin 16) (v : Word) : (s.writeStateWord i v).matrix = s.matrix.set i v := rfl
@[simp] theorem State.writeStateWord_ks (s : State) (i : Fin 16) (v : Word) : (s.writeStateWord i v).ks = s.ks := rfl
@[simp] theorem State.writeStateWord_phase (s : State) (i : Fin 16) (v : Word) : (s.writeStateWord i v).phase = s.phase := rfl
@[simp] theorem State.writeStateWord_op (s : State) (i : Fin 16) (v : Word) : (s.writeStateWord i v).op = s.op := rfl
@[simp] theorem State.writeStateWord_var (s : State) (i : Fin 16) (v : Word) : (s.writeStateWord i v).var = s.var := rfl
@[simp] theorem State.writeStateWord_lMlen (s : State) (i : Fin 16) (v : Word) : (s.writeStateWord i v).lMlen = s.lMlen := rfl
@[simp] theorem State.writeStateWord_lMsg (s : State) (i : Fin 16) (v : Word) : (s.writeStateWord i v).lMsg = s.lMsg := rfl
@[simp] theorem State.writeStateWord_lCiph (s : State) (i : Fin 16) (v : Word) : (s.writeStateWord i v).lCiph = s.lCiph := rfl
@[simp] theorem State.writeStateWord_ctr (s : State) (i : Fin 16) (v : Word) : (s.writeStateWord i v).ctr = s.ctr := rfl
@[simp] theorem State.writeStateWord_mem (s : State) (i : Fin 16) (v : Word) : (s.writeStateWord i v).mem = s.mem := rfl
@[simp] theorem State.writeStateWord_unseen (s : State) (i : Fin 16) (v : Word) : (s.writeStateWord i v).unseen = s.unseen := rfl
@[simp] theorem State.writeStateWord_inbox (s : State) (i : Fin 16) (v : Word) : (s.writeStateWord i v).inbox = s.inbox := rfl
@[simp] theorem State.writeStateWord_response (s : State) (i : Fin 16) (v : Word) : (s.writeStateWord i v).response = s.response := rfl
@[simp] theorem State.writeStateWord_draws (s : State) (i : Fin 16) (v : Word) : (s.writeStateWord i v).draws = s.draws := rfl

/-! ### setMatrix -/

@[simp] theorem State.setMatrix_cfg (s : State) (b : Block) : (s.setMatrix b).cfg = s.cfg := rfl
@[simp] theorem State.setMatrix_ctrl (s : State) (b : Block) : (s.setMatrix b).ctrl = s.ctrl := rfl
@[simp] theorem State.setMatrix_busy (s : State) (b : Block) : (s.setMatrix b).busy = s.busy := rfl
@[simp] theorem State.setMatrix_done (s : State) (b : Block) : (s.setMatrix b).done = s.done := rfl
@[simp] theorem State.setMatrix_err (s : State) (b : Block) : (s.setMatrix b).err = s.err := rfl
@[simp] theorem State.setMatrix_errCode (s : State) (b : Block) : (s.setMatrix b).errCode = s.errCode := rfl
@[simp] theorem State.setMatrix_errInfo (s : State) (b : Block) : (s.setMatrix b).errInfo = s.errInfo := rfl
@[simp] theorem State.setMatrix_valid (s : State) (b : Block) : (s.setMatrix b).valid = s.valid := rfl
@[simp] theorem State.setMatrix_svalid (s : State) (b : Block) : (s.setMatrix b).svalid = allStateValid := rfl
@[simp] theorem State.setMatrix_faultAddr (s : State) (b : Block) : (s.setMatrix b).faultAddr = s.faultAddr := rfl
@[simp] theorem State.setMatrix_progress (s : State) (b : Block) : (s.setMatrix b).progress = s.progress := rfl
@[simp] theorem State.setMatrix_operands (s : State) (b : Block) : (s.setMatrix b).operands = s.operands := rfl
@[simp] theorem State.setMatrix_matrix (s : State) (b : Block) : (s.setMatrix b).matrix = b := rfl
@[simp] theorem State.setMatrix_ks (s : State) (b : Block) : (s.setMatrix b).ks = s.ks := rfl
@[simp] theorem State.setMatrix_phase (s : State) (b : Block) : (s.setMatrix b).phase = s.phase := rfl
@[simp] theorem State.setMatrix_op (s : State) (b : Block) : (s.setMatrix b).op = s.op := rfl
@[simp] theorem State.setMatrix_var (s : State) (b : Block) : (s.setMatrix b).var = s.var := rfl
@[simp] theorem State.setMatrix_lMlen (s : State) (b : Block) : (s.setMatrix b).lMlen = s.lMlen := rfl
@[simp] theorem State.setMatrix_lMsg (s : State) (b : Block) : (s.setMatrix b).lMsg = s.lMsg := rfl
@[simp] theorem State.setMatrix_lCiph (s : State) (b : Block) : (s.setMatrix b).lCiph = s.lCiph := rfl
@[simp] theorem State.setMatrix_ctr (s : State) (b : Block) : (s.setMatrix b).ctr = s.ctr := rfl
@[simp] theorem State.setMatrix_mem (s : State) (b : Block) : (s.setMatrix b).mem = s.mem := rfl
@[simp] theorem State.setMatrix_unseen (s : State) (b : Block) : (s.setMatrix b).unseen = s.unseen := rfl
@[simp] theorem State.setMatrix_inbox (s : State) (b : Block) : (s.setMatrix b).inbox = s.inbox := rfl
@[simp] theorem State.setMatrix_response (s : State) (b : Block) : (s.setMatrix b).response = s.response := rfl
@[simp] theorem State.setMatrix_draws (s : State) (b : Block) : (s.setMatrix b).draws = s.draws := rfl

/-! ### setKs -/

@[simp] theorem State.setKs_cfg (s : State) (b : Block) : (s.setKs b).cfg = s.cfg := rfl
@[simp] theorem State.setKs_ctrl (s : State) (b : Block) : (s.setKs b).ctrl = s.ctrl := rfl
@[simp] theorem State.setKs_busy (s : State) (b : Block) : (s.setKs b).busy = s.busy := rfl
@[simp] theorem State.setKs_done (s : State) (b : Block) : (s.setKs b).done = s.done := rfl
@[simp] theorem State.setKs_err (s : State) (b : Block) : (s.setKs b).err = s.err := rfl
@[simp] theorem State.setKs_errCode (s : State) (b : Block) : (s.setKs b).errCode = s.errCode := rfl
@[simp] theorem State.setKs_errInfo (s : State) (b : Block) : (s.setKs b).errInfo = s.errInfo := rfl
@[simp] theorem State.setKs_valid (s : State) (b : Block) : (s.setKs b).valid = setBit s.valid ksValidBit := rfl
@[simp] theorem State.setKs_svalid (s : State) (b : Block) : (s.setKs b).svalid = s.svalid := rfl
@[simp] theorem State.setKs_faultAddr (s : State) (b : Block) : (s.setKs b).faultAddr = s.faultAddr := rfl
@[simp] theorem State.setKs_progress (s : State) (b : Block) : (s.setKs b).progress = s.progress := rfl
@[simp] theorem State.setKs_operands (s : State) (b : Block) : (s.setKs b).operands = s.operands := rfl
@[simp] theorem State.setKs_matrix (s : State) (b : Block) : (s.setKs b).matrix = s.matrix := rfl
@[simp] theorem State.setKs_ks (s : State) (b : Block) : (s.setKs b).ks = b := rfl
@[simp] theorem State.setKs_phase (s : State) (b : Block) : (s.setKs b).phase = s.phase := rfl
@[simp] theorem State.setKs_op (s : State) (b : Block) : (s.setKs b).op = s.op := rfl
@[simp] theorem State.setKs_var (s : State) (b : Block) : (s.setKs b).var = s.var := rfl
@[simp] theorem State.setKs_lMlen (s : State) (b : Block) : (s.setKs b).lMlen = s.lMlen := rfl
@[simp] theorem State.setKs_lMsg (s : State) (b : Block) : (s.setKs b).lMsg = s.lMsg := rfl
@[simp] theorem State.setKs_lCiph (s : State) (b : Block) : (s.setKs b).lCiph = s.lCiph := rfl
@[simp] theorem State.setKs_ctr (s : State) (b : Block) : (s.setKs b).ctr = s.ctr := rfl
@[simp] theorem State.setKs_mem (s : State) (b : Block) : (s.setKs b).mem = s.mem := rfl
@[simp] theorem State.setKs_unseen (s : State) (b : Block) : (s.setKs b).unseen = s.unseen := rfl
@[simp] theorem State.setKs_inbox (s : State) (b : Block) : (s.setKs b).inbox = s.inbox := rfl
@[simp] theorem State.setKs_response (s : State) (b : Block) : (s.setKs b).response = s.response := rfl
@[simp] theorem State.setKs_draws (s : State) (b : Block) : (s.setKs b).draws = s.draws := rfl

/-! ### answer -/

@[simp] theorem State.answer_cfg (s : State) (v : Word) : (s.answer v).cfg = s.cfg := rfl
@[simp] theorem State.answer_ctrl (s : State) (v : Word) : (s.answer v).ctrl = s.ctrl := rfl
@[simp] theorem State.answer_busy (s : State) (v : Word) : (s.answer v).busy = s.busy := rfl
@[simp] theorem State.answer_done (s : State) (v : Word) : (s.answer v).done = s.done := rfl
@[simp] theorem State.answer_err (s : State) (v : Word) : (s.answer v).err = s.err := rfl
@[simp] theorem State.answer_errCode (s : State) (v : Word) : (s.answer v).errCode = s.errCode := rfl
@[simp] theorem State.answer_errInfo (s : State) (v : Word) : (s.answer v).errInfo = s.errInfo := rfl
@[simp] theorem State.answer_valid (s : State) (v : Word) : (s.answer v).valid = s.valid := rfl
@[simp] theorem State.answer_svalid (s : State) (v : Word) : (s.answer v).svalid = s.svalid := rfl
@[simp] theorem State.answer_faultAddr (s : State) (v : Word) : (s.answer v).faultAddr = s.faultAddr := rfl
@[simp] theorem State.answer_progress (s : State) (v : Word) : (s.answer v).progress = s.progress := rfl
@[simp] theorem State.answer_operands (s : State) (v : Word) : (s.answer v).operands = s.operands := rfl
@[simp] theorem State.answer_matrix (s : State) (v : Word) : (s.answer v).matrix = s.matrix := rfl
@[simp] theorem State.answer_ks (s : State) (v : Word) : (s.answer v).ks = s.ks := rfl
@[simp] theorem State.answer_phase (s : State) (v : Word) : (s.answer v).phase = s.phase := rfl
@[simp] theorem State.answer_op (s : State) (v : Word) : (s.answer v).op = s.op := rfl
@[simp] theorem State.answer_var (s : State) (v : Word) : (s.answer v).var = s.var := rfl
@[simp] theorem State.answer_lMlen (s : State) (v : Word) : (s.answer v).lMlen = s.lMlen := rfl
@[simp] theorem State.answer_lMsg (s : State) (v : Word) : (s.answer v).lMsg = s.lMsg := rfl
@[simp] theorem State.answer_lCiph (s : State) (v : Word) : (s.answer v).lCiph = s.lCiph := rfl
@[simp] theorem State.answer_ctr (s : State) (v : Word) : (s.answer v).ctr = s.ctr := rfl
@[simp] theorem State.answer_mem (s : State) (v : Word) : (s.answer v).mem = s.mem := rfl
@[simp] theorem State.answer_unseen (s : State) (v : Word) : (s.answer v).unseen = s.unseen := rfl
@[simp] theorem State.answer_inbox (s : State) (v : Word) : (s.answer v).inbox = s.inbox := rfl
@[simp] theorem State.answer_response (s : State) (v : Word) : (s.answer v).response = .word v := rfl
@[simp] theorem State.answer_draws (s : State) (v : Word) : (s.answer v).draws = s.draws := rfl

/-! ### answerFree -/

@[simp] theorem State.answerFree_cfg (s : State) : (s.answerFree).cfg = s.cfg := rfl
@[simp] theorem State.answerFree_ctrl (s : State) : (s.answerFree).ctrl = s.ctrl := rfl
@[simp] theorem State.answerFree_busy (s : State) : (s.answerFree).busy = s.busy := rfl
@[simp] theorem State.answerFree_done (s : State) : (s.answerFree).done = s.done := rfl
@[simp] theorem State.answerFree_err (s : State) : (s.answerFree).err = s.err := rfl
@[simp] theorem State.answerFree_errCode (s : State) : (s.answerFree).errCode = s.errCode := rfl
@[simp] theorem State.answerFree_errInfo (s : State) : (s.answerFree).errInfo = s.errInfo := rfl
@[simp] theorem State.answerFree_valid (s : State) : (s.answerFree).valid = s.valid := rfl
@[simp] theorem State.answerFree_svalid (s : State) : (s.answerFree).svalid = s.svalid := rfl
@[simp] theorem State.answerFree_faultAddr (s : State) : (s.answerFree).faultAddr = s.faultAddr := rfl
@[simp] theorem State.answerFree_progress (s : State) : (s.answerFree).progress = s.progress := rfl
@[simp] theorem State.answerFree_operands (s : State) : (s.answerFree).operands = s.operands := rfl
@[simp] theorem State.answerFree_matrix (s : State) : (s.answerFree).matrix = s.matrix := rfl
@[simp] theorem State.answerFree_ks (s : State) : (s.answerFree).ks = s.ks := rfl
@[simp] theorem State.answerFree_phase (s : State) : (s.answerFree).phase = s.phase := rfl
@[simp] theorem State.answerFree_op (s : State) : (s.answerFree).op = s.op := rfl
@[simp] theorem State.answerFree_var (s : State) : (s.answerFree).var = s.var := rfl
@[simp] theorem State.answerFree_lMlen (s : State) : (s.answerFree).lMlen = s.lMlen := rfl
@[simp] theorem State.answerFree_lMsg (s : State) : (s.answerFree).lMsg = s.lMsg := rfl
@[simp] theorem State.answerFree_lCiph (s : State) : (s.answerFree).lCiph = s.lCiph := rfl
@[simp] theorem State.answerFree_ctr (s : State) : (s.answerFree).ctr = s.ctr := rfl
@[simp] theorem State.answerFree_mem (s : State) : (s.answerFree).mem = s.mem := rfl
@[simp] theorem State.answerFree_unseen (s : State) : (s.answerFree).unseen = s.unseen := rfl
@[simp] theorem State.answerFree_inbox (s : State) : (s.answerFree).inbox = s.inbox := rfl
@[simp] theorem State.answerFree_response (s : State) : (s.answerFree).response = .word (Config.freeWord s.draws) := rfl
@[simp] theorem State.answerFree_draws (s : State) : (s.answerFree).draws = s.draws + 1 := rfl

/-! ### synchronise -/

@[simp] theorem State.synchronise_cfg (s : State) : (s.synchronise).cfg = s.cfg := rfl
@[simp] theorem State.synchronise_ctrl (s : State) : (s.synchronise).ctrl = s.ctrl := rfl
@[simp] theorem State.synchronise_busy (s : State) : (s.synchronise).busy = s.busy := rfl
@[simp] theorem State.synchronise_done (s : State) : (s.synchronise).done = s.done := rfl
@[simp] theorem State.synchronise_err (s : State) : (s.synchronise).err = s.err := rfl
@[simp] theorem State.synchronise_errCode (s : State) : (s.synchronise).errCode = s.errCode := rfl
@[simp] theorem State.synchronise_errInfo (s : State) : (s.synchronise).errInfo = s.errInfo := rfl
@[simp] theorem State.synchronise_valid (s : State) : (s.synchronise).valid = s.valid := rfl
@[simp] theorem State.synchronise_svalid (s : State) : (s.synchronise).svalid = s.svalid := rfl
@[simp] theorem State.synchronise_faultAddr (s : State) : (s.synchronise).faultAddr = s.faultAddr := rfl
@[simp] theorem State.synchronise_progress (s : State) : (s.synchronise).progress = s.progress := rfl
@[simp] theorem State.synchronise_operands (s : State) : (s.synchronise).operands = s.operands := rfl
@[simp] theorem State.synchronise_matrix (s : State) : (s.synchronise).matrix = s.matrix := rfl
@[simp] theorem State.synchronise_ks (s : State) : (s.synchronise).ks = s.ks := rfl
@[simp] theorem State.synchronise_phase (s : State) : (s.synchronise).phase = s.phase := rfl
@[simp] theorem State.synchronise_op (s : State) : (s.synchronise).op = s.op := rfl
@[simp] theorem State.synchronise_var (s : State) : (s.synchronise).var = s.var := rfl
@[simp] theorem State.synchronise_lMlen (s : State) : (s.synchronise).lMlen = s.lMlen := rfl
@[simp] theorem State.synchronise_lMsg (s : State) : (s.synchronise).lMsg = s.lMsg := rfl
@[simp] theorem State.synchronise_lCiph (s : State) : (s.synchronise).lCiph = s.lCiph := rfl
@[simp] theorem State.synchronise_ctr (s : State) : (s.synchronise).ctr = s.ctr := rfl
@[simp] theorem State.synchronise_mem (s : State) : (s.synchronise).mem = s.mem := rfl
@[simp] theorem State.synchronise_unseen (s : State) : (s.synchronise).unseen = [] := rfl
@[simp] theorem State.synchronise_inbox (s : State) : (s.synchronise).inbox = s.inbox := rfl
@[simp] theorem State.synchronise_response (s : State) : (s.synchronise).response = s.response := rfl
@[simp] theorem State.synchronise_draws (s : State) : (s.synchronise).draws = s.draws := rfl

/-! ### answerByte -/

@[simp] theorem State.answerByte_cfg (s : State) (v : Byte) : (s.answerByte v).cfg = s.cfg := rfl
@[simp] theorem State.answerByte_ctrl (s : State) (v : Byte) : (s.answerByte v).ctrl = s.ctrl := rfl
@[simp] theorem State.answerByte_busy (s : State) (v : Byte) : (s.answerByte v).busy = s.busy := rfl
@[simp] theorem State.answerByte_done (s : State) (v : Byte) : (s.answerByte v).done = s.done := rfl
@[simp] theorem State.answerByte_err (s : State) (v : Byte) : (s.answerByte v).err = s.err := rfl
@[simp] theorem State.answerByte_errCode (s : State) (v : Byte) : (s.answerByte v).errCode = s.errCode := rfl
@[simp] theorem State.answerByte_errInfo (s : State) (v : Byte) : (s.answerByte v).errInfo = s.errInfo := rfl
@[simp] theorem State.answerByte_valid (s : State) (v : Byte) : (s.answerByte v).valid = s.valid := rfl
@[simp] theorem State.answerByte_svalid (s : State) (v : Byte) : (s.answerByte v).svalid = s.svalid := rfl
@[simp] theorem State.answerByte_faultAddr (s : State) (v : Byte) : (s.answerByte v).faultAddr = s.faultAddr := rfl
@[simp] theorem State.answerByte_progress (s : State) (v : Byte) : (s.answerByte v).progress = s.progress := rfl
@[simp] theorem State.answerByte_operands (s : State) (v : Byte) : (s.answerByte v).operands = s.operands := rfl
@[simp] theorem State.answerByte_matrix (s : State) (v : Byte) : (s.answerByte v).matrix = s.matrix := rfl
@[simp] theorem State.answerByte_ks (s : State) (v : Byte) : (s.answerByte v).ks = s.ks := rfl
@[simp] theorem State.answerByte_phase (s : State) (v : Byte) : (s.answerByte v).phase = s.phase := rfl
@[simp] theorem State.answerByte_op (s : State) (v : Byte) : (s.answerByte v).op = s.op := rfl
@[simp] theorem State.answerByte_var (s : State) (v : Byte) : (s.answerByte v).var = s.var := rfl
@[simp] theorem State.answerByte_lMlen (s : State) (v : Byte) : (s.answerByte v).lMlen = s.lMlen := rfl
@[simp] theorem State.answerByte_lMsg (s : State) (v : Byte) : (s.answerByte v).lMsg = s.lMsg := rfl
@[simp] theorem State.answerByte_lCiph (s : State) (v : Byte) : (s.answerByte v).lCiph = s.lCiph := rfl
@[simp] theorem State.answerByte_ctr (s : State) (v : Byte) : (s.answerByte v).ctr = s.ctr := rfl
@[simp] theorem State.answerByte_mem (s : State) (v : Byte) : (s.answerByte v).mem = s.mem := rfl
@[simp] theorem State.answerByte_unseen (s : State) (v : Byte) : (s.answerByte v).unseen = s.unseen := rfl
@[simp] theorem State.answerByte_inbox (s : State) (v : Byte) : (s.answerByte v).inbox = s.inbox := rfl
@[simp] theorem State.answerByte_response (s : State) (v : Byte) : (s.answerByte v).response = .byte v := rfl
@[simp] theorem State.answerByte_draws (s : State) (v : Byte) : (s.answerByte v).draws = s.draws := rfl

/-! ### answerFreeByte -/

@[simp] theorem State.answerFreeByte_cfg (s : State) : (s.answerFreeByte).cfg = s.cfg := rfl
@[simp] theorem State.answerFreeByte_ctrl (s : State) : (s.answerFreeByte).ctrl = s.ctrl := rfl
@[simp] theorem State.answerFreeByte_busy (s : State) : (s.answerFreeByte).busy = s.busy := rfl
@[simp] theorem State.answerFreeByte_done (s : State) : (s.answerFreeByte).done = s.done := rfl
@[simp] theorem State.answerFreeByte_err (s : State) : (s.answerFreeByte).err = s.err := rfl
@[simp] theorem State.answerFreeByte_errCode (s : State) : (s.answerFreeByte).errCode = s.errCode := rfl
@[simp] theorem State.answerFreeByte_errInfo (s : State) : (s.answerFreeByte).errInfo = s.errInfo := rfl
@[simp] theorem State.answerFreeByte_valid (s : State) : (s.answerFreeByte).valid = s.valid := rfl
@[simp] theorem State.answerFreeByte_svalid (s : State) : (s.answerFreeByte).svalid = s.svalid := rfl
@[simp] theorem State.answerFreeByte_faultAddr (s : State) : (s.answerFreeByte).faultAddr = s.faultAddr := rfl
@[simp] theorem State.answerFreeByte_progress (s : State) : (s.answerFreeByte).progress = s.progress := rfl
@[simp] theorem State.answerFreeByte_operands (s : State) : (s.answerFreeByte).operands = s.operands := rfl
@[simp] theorem State.answerFreeByte_matrix (s : State) : (s.answerFreeByte).matrix = s.matrix := rfl
@[simp] theorem State.answerFreeByte_ks (s : State) : (s.answerFreeByte).ks = s.ks := rfl
@[simp] theorem State.answerFreeByte_phase (s : State) : (s.answerFreeByte).phase = s.phase := rfl
@[simp] theorem State.answerFreeByte_op (s : State) : (s.answerFreeByte).op = s.op := rfl
@[simp] theorem State.answerFreeByte_var (s : State) : (s.answerFreeByte).var = s.var := rfl
@[simp] theorem State.answerFreeByte_lMlen (s : State) : (s.answerFreeByte).lMlen = s.lMlen := rfl
@[simp] theorem State.answerFreeByte_lMsg (s : State) : (s.answerFreeByte).lMsg = s.lMsg := rfl
@[simp] theorem State.answerFreeByte_lCiph (s : State) : (s.answerFreeByte).lCiph = s.lCiph := rfl
@[simp] theorem State.answerFreeByte_ctr (s : State) : (s.answerFreeByte).ctr = s.ctr := rfl
@[simp] theorem State.answerFreeByte_mem (s : State) : (s.answerFreeByte).mem = s.mem := rfl
@[simp] theorem State.answerFreeByte_unseen (s : State) : (s.answerFreeByte).unseen = s.unseen := rfl
@[simp] theorem State.answerFreeByte_inbox (s : State) : (s.answerFreeByte).inbox = s.inbox := rfl
@[simp] theorem State.answerFreeByte_response (s : State) : (s.answerFreeByte).response = .byte (Config.freeByte s.draws) := rfl
@[simp] theorem State.answerFreeByte_draws (s : State) : (s.answerFreeByte).draws = s.draws + 1 := rfl

/-! ### loseCipherFrom -/

@[simp] theorem State.loseCipherFrom_cfg (s : State) (i : Nat) : (s.loseCipherFrom i).cfg = s.cfg := rfl
@[simp] theorem State.loseCipherFrom_ctrl (s : State) (i : Nat) : (s.loseCipherFrom i).ctrl = s.ctrl := rfl
@[simp] theorem State.loseCipherFrom_busy (s : State) (i : Nat) : (s.loseCipherFrom i).busy = s.busy := rfl
@[simp] theorem State.loseCipherFrom_done (s : State) (i : Nat) : (s.loseCipherFrom i).done = s.done := rfl
@[simp] theorem State.loseCipherFrom_err (s : State) (i : Nat) : (s.loseCipherFrom i).err = s.err := rfl
@[simp] theorem State.loseCipherFrom_errCode (s : State) (i : Nat) : (s.loseCipherFrom i).errCode = s.errCode := rfl
@[simp] theorem State.loseCipherFrom_errInfo (s : State) (i : Nat) : (s.loseCipherFrom i).errInfo = s.errInfo := rfl
@[simp] theorem State.loseCipherFrom_valid (s : State) (i : Nat) : (s.loseCipherFrom i).valid = s.valid := rfl
@[simp] theorem State.loseCipherFrom_svalid (s : State) (i : Nat) : (s.loseCipherFrom i).svalid = s.svalid := rfl
@[simp] theorem State.loseCipherFrom_faultAddr (s : State) (i : Nat) : (s.loseCipherFrom i).faultAddr = s.faultAddr := rfl
@[simp] theorem State.loseCipherFrom_progress (s : State) (i : Nat) : (s.loseCipherFrom i).progress = s.progress := rfl
@[simp] theorem State.loseCipherFrom_operands (s : State) (i : Nat) : (s.loseCipherFrom i).operands = s.operands := rfl
@[simp] theorem State.loseCipherFrom_matrix (s : State) (i : Nat) : (s.loseCipherFrom i).matrix = s.matrix := rfl
@[simp] theorem State.loseCipherFrom_ks (s : State) (i : Nat) : (s.loseCipherFrom i).ks = s.ks := rfl
@[simp] theorem State.loseCipherFrom_phase (s : State) (i : Nat) : (s.loseCipherFrom i).phase = s.phase := rfl
@[simp] theorem State.loseCipherFrom_op (s : State) (i : Nat) : (s.loseCipherFrom i).op = s.op := rfl
@[simp] theorem State.loseCipherFrom_var (s : State) (i : Nat) : (s.loseCipherFrom i).var = s.var := rfl
@[simp] theorem State.loseCipherFrom_lMlen (s : State) (i : Nat) : (s.loseCipherFrom i).lMlen = s.lMlen := rfl
@[simp] theorem State.loseCipherFrom_lMsg (s : State) (i : Nat) : (s.loseCipherFrom i).lMsg = s.lMsg := rfl
@[simp] theorem State.loseCipherFrom_lCiph (s : State) (i : Nat) : (s.loseCipherFrom i).lCiph = s.lCiph := rfl
@[simp] theorem State.loseCipherFrom_ctr (s : State) (i : Nat) : (s.loseCipherFrom i).ctr = s.ctr := rfl
@[simp] theorem State.loseCipherFrom_mem (s : State) (i : Nat) : (s.loseCipherFrom i).mem = s.mem.scramble (s.lCiph.toNat + i) (s.lMlen.toNat - i) s.draws := rfl
@[simp] theorem State.loseCipherFrom_unseen (s : State) (i : Nat) : (s.loseCipherFrom i).unseen = s.unseen := rfl
@[simp] theorem State.loseCipherFrom_inbox (s : State) (i : Nat) : (s.loseCipherFrom i).inbox = s.inbox := rfl
@[simp] theorem State.loseCipherFrom_response (s : State) (i : Nat) : (s.loseCipherFrom i).response = s.response := rfl
@[simp] theorem State.loseCipherFrom_draws (s : State) (i : Nat) : (s.loseCipherFrom i).draws = s.draws + (s.lMlen.toNat - i) := rfl

/-! ### loseBlocks -/

@[simp] theorem State.loseBlocks_cfg (s : State) : (s.loseBlocks).cfg = s.cfg := rfl
@[simp] theorem State.loseBlocks_ctrl (s : State) : (s.loseBlocks).ctrl = s.ctrl := rfl
@[simp] theorem State.loseBlocks_busy (s : State) : (s.loseBlocks).busy = s.busy := rfl
@[simp] theorem State.loseBlocks_done (s : State) : (s.loseBlocks).done = s.done := rfl
@[simp] theorem State.loseBlocks_err (s : State) : (s.loseBlocks).err = s.err := rfl
@[simp] theorem State.loseBlocks_errCode (s : State) : (s.loseBlocks).errCode = s.errCode := rfl
@[simp] theorem State.loseBlocks_errInfo (s : State) : (s.loseBlocks).errInfo = s.errInfo := rfl
@[simp] theorem State.loseBlocks_valid (s : State) : (s.loseBlocks).valid = s.valid &&& ~~~(BitVec.twoPow 32 ksValidBit) := rfl
@[simp] theorem State.loseBlocks_svalid (s : State) : (s.loseBlocks).svalid = 0 := rfl
@[simp] theorem State.loseBlocks_faultAddr (s : State) : (s.loseBlocks).faultAddr = s.faultAddr := rfl
@[simp] theorem State.loseBlocks_progress (s : State) : (s.loseBlocks).progress = s.progress := rfl
@[simp] theorem State.loseBlocks_operands (s : State) : (s.loseBlocks).operands = s.operands := rfl
@[simp] theorem State.loseBlocks_matrix (s : State) : (s.loseBlocks).matrix = freeBlock s.draws := rfl
@[simp] theorem State.loseBlocks_ks (s : State) : (s.loseBlocks).ks = freeBlock (s.draws + 16) := rfl
@[simp] theorem State.loseBlocks_phase (s : State) : (s.loseBlocks).phase = s.phase := rfl
@[simp] theorem State.loseBlocks_op (s : State) : (s.loseBlocks).op = s.op := rfl
@[simp] theorem State.loseBlocks_var (s : State) : (s.loseBlocks).var = s.var := rfl
@[simp] theorem State.loseBlocks_lMlen (s : State) : (s.loseBlocks).lMlen = s.lMlen := rfl
@[simp] theorem State.loseBlocks_lMsg (s : State) : (s.loseBlocks).lMsg = s.lMsg := rfl
@[simp] theorem State.loseBlocks_lCiph (s : State) : (s.loseBlocks).lCiph = s.lCiph := rfl
@[simp] theorem State.loseBlocks_ctr (s : State) : (s.loseBlocks).ctr = DWord.ofHalves (Config.freeWord (s.draws + 32)) (Config.freeWord (s.draws + 33)) := rfl
@[simp] theorem State.loseBlocks_mem (s : State) : (s.loseBlocks).mem = s.mem := rfl
@[simp] theorem State.loseBlocks_unseen (s : State) : (s.loseBlocks).unseen = s.unseen := rfl
@[simp] theorem State.loseBlocks_inbox (s : State) : (s.loseBlocks).inbox = s.inbox := rfl
@[simp] theorem State.loseBlocks_response (s : State) : (s.loseBlocks).response = s.response := rfl
@[simp] theorem State.loseBlocks_draws (s : State) : (s.loseBlocks).draws = s.draws + 34 := rfl

end Sys2Proof.Machine
end

