-- ==== Sys2Proof/Laws/Step.lean ====
section
/-! SUPPORT. What one step can do, said once: every next state of `step` is one of the moves below. -/

namespace Sys2Proof.Machine

/-- What the accept of a command does beside 43_control.md R183. -/
def latchOf (i : Instr) (s : State) : State :=
  match i with
  | .crypt _ => s.latchCrypt
  | _ => s

/-- In an idle block every command is issued in the same way (43_control.md R180). -/
theorem exec_idle (i : Instr) {s : State} (h : s.phase = .idle) :
    exec i s = .next (s.issue (encode i) (checksOf i s) (latchOf i)) := by
  cases i <;> simp only [exec, execNop, execBuildState, execSetCounter, execTransform, execCrypt, h] <;> rfl

/-- An issue reports the first failing check, or accepts (43_control.md R180). -/
theorem issue_cases (i : Instr) (s : State) :
    (∃ k d, firstFailure (checksOf i s) = some (k, d) ∧
      s.issue (encode i) (checksOf i s) (latchOf i) = s.report k d) ∨
    (Ready i s ∧ s.issue (encode i) (checksOf i s) (latchOf i) = latchOf i (s.accept (encode i))) := by
  unfold State.issue Ready
  cases h : firstFailure (checksOf i s) with
  | none => exact .inr ⟨rfl, rfl⟩
  | some e => exact .inl ⟨e.1, e.2, rfl, rfl⟩

/-- The command whose engine step is taken: the one of the hidden registers, unless BUSY is 0 (which no reachable state
has in that phase). -/
def Runs (s : State) (op : BitVec 4) : Prop := s.op = op ∨ s.busy = false

/-- The event is a host write of a register. -/
def IsWrite (e : Option Event) : Prop := ∃ addr size v, e = some (.busWrite addr size v)

/-- The moves of one step, from the state with its event `e` taken from the inbox. -/
inductive Move (e : Option Event) (s : State) : State → Prop
  /-- An idle engine makes no step. -/
  | stay (h : s.phase = .idle) : Move e s s
  /-- A report (60_exceptions.md R206), on a host write. -/
  | reject (k : ErrCode) (d : Word) (hn : k ≠ .noError) (hb : k ≠ .bus) (he : IsWrite e) : Move e s (s.report k d)
  /-- The accept of a command (43_control.md R183, R184), on a host write. -/
  | accept (i : Instr) (h : s.phase = .idle) (hi : ∃ w, decode w = some i) (hr : Ready i s) (he : IsWrite e) :
      Move e s (latchOf i (s.accept (encode i)))
  /-- The engine step of NOP. -/
  | nop (h : s.phase = .start) (ho : Runs s 0) : Move e s s.finish
  /-- The engine step of BUILD_STATE. -/
  | build (h : s.phase = .start) (ho : Runs s 1) : Move e s s.buildStep
  /-- The engine step of SET_COUNTER. -/
  | setCounter (h : s.phase = .start) (ho : Runs s 2) : Move e s s.setCounterStep
  /-- The engine step of TRANSFORM. -/
  | transform (h : s.phase = .start) (ho : Runs s 3) : Move e s s.transformStep
  /-- The setup step of CRYPT. -/
  | setup (h : s.phase = .start) (ho : Runs s 4) : Move e s s.setupStep
  /-- The generation step of CRYPT. -/
  | gen (h : s.phase = .gen) (ho : Runs s 4) : Move e s s.genStep
  /-- The bus-fault abort of CRYPT. -/
  | abort (d : Dir) (a : Nat) (h : s.phase = .xor) (ho : Runs s 4) : Move e s (s.busAbort d a)
  /-- The byte step of CRYPT. -/
  | byte (h : s.phase = .xor) (ho : Runs s 4) (hw : s.writeAddr < 2 ^ s.cfg.addrWidth) :
      Move e s (s.cipherByte s.readAddr s.writeAddr)
  /-- A host write of an operand register. -/
  | operand (r : OperandReg) (v : Word) (h : s.busy = false) : Move e s (s.writeOperand r v)
  /-- A host write of a state word. -/
  | stateWord (i : Fin 16) (v : Word) (h : s.busy = false) : Move e s (s.writeStateWord i v)
  /-- A host read that the spec gives a value. -/
  | answer (v : Word) : Move e s (s.answer v)
  /-- A host read of an unspecified value. -/
  | answerFree : Move e s s.answerFree
  /-- A host read of STATUS that returns BUSY = 0. -/
  | sync (h : s.busy = false) : Move e s (s.answer s.statusWord).synchronise
  /-- A host read of a byte that the spec gives a value. -/
  | answerByte (v : Byte) : Move e s (s.answerByte v)
  /-- A host read of a byte that it is not bound to see. -/
  | answerFreeByte : Move e s s.answerFreeByte
  /-- A host write of a byte. -/
  | writeByte (a : Nat) (v : Byte) (he : e = some (.memWrite a v)) (ha : a < 2 ^ s.cfg.addrWidth)
      (hr : s.races a = false) : Move e s { s with mem := s.mem.write a v }
  /-- The reset input. -/
  | reset (he : e = some .reset) : Move e s s.applyReset

/-- A byte step aborts on a bus fault or ciphers one byte (42_streamer.md R157, R168). -/
theorem byteStep_move {e : Option Event} {s t : State} (h : s.phase = .xor) (ho : Runs s 4)
    (hb : s.byteStep = .next t) : Move e s t := by
  unfold State.byteStep at hb
  split at hb
  · cases hb
  · next hin =>
    split at hb
    · cases hb; exact .abort _ _ h ho
    · split at hb
      · cases hb; exact .abort _ _ h ho
      · cases hb
        simp only [inSpace, Bool.not_eq_true', Bool.and_eq_false_iff, not_or, Bool.not_eq_false, decide_eq_true_eq] at hin
        exact .byte h ho hin.2

/-- One engine step of a command, or its issue. -/
theorem exec_move {e : Option Event} {i : Instr} {s t : State} (hi : ∃ w, decode w = some i)
    (he : s.phase = .idle → IsWrite e) (ho : s.phase ≠ .idle → Runs s i.op) (h : exec i s = .next t) : Move e s t := by
  by_cases hp : s.phase = .idle
  · rw [exec_idle i hp] at h
    cases h
    rcases issue_cases i s with ⟨k, d, hf, hs⟩ | ⟨hr, hs⟩
    · rw [hs]; exact .reject k d (firstFailure_code hf).1 (firstFailure_code hf).2 (he hp)
    · rw [hs]; exact .accept i hp hi hr (he hp)
  have ho := ho hp
  cases hq : s.phase <;> cases i <;>
    simp only [exec, execNop, execBuildState, execSetCounter, execTransform, execCrypt, State.whenOrdinary, hq,
      Host.Outcome.next.injEq, reduceCtorEq] at h hp
  case start.nop => exact h ▸ .nop hq ho
  case start.buildState => exact h ▸ .build hq ho
  case start.setCounter => exact h ▸ .setCounter hq ho
  case start.transform => exact h ▸ .transform hq ho
  case start.crypt =>
    split at h
    · cases h; exact .setup hq ho
    · cases h
  case gen.crypt =>
    split at h
    · cases h; exact .gen hq ho
    · cases h
  case xor.crypt =>
    split at h
    · exact byteStep_move hq ho h
    · cases h
  all_goals exact absurd trivial hp

/-- The command that the hidden registers name is encodable and has their opcode. -/
theorem commandOf_spec {op : BitVec 4} {var : BitVec 8} {i : Instr} (h : commandOf op var = some i) :
    i.op = op ∧ i.wellFormed = true := by
  have hop : op.toNat < 16 := op.isLt
  unfold commandOf at h
  split at h <;> cases h <;> refine ⟨BitVec.eq_of_toNat_eq ?_, ?_⟩ <;>
    first
    | exact decide_eq_true (BitVec.isLt var)
    | simp_all [Instr.op, Instr.wellFormed]

/-- Every encodable command has a word that decodes to it. -/
theorem exists_word_of_wellFormed {i : Instr} (h : i.wellFormed = true) : ∃ w, decode w = some i := by
  refine ⟨encode i, ?_⟩
  cases i <;> simp_all [decode, encode, Instr.op, Instr.var, Instr.wellFormed]

theorem engineTurn_move {e : Option Event} {s t : State} (h : engineTurn s = .next t) : Move e s t := by
  unfold engineTurn at h
  split at h
  · next hp => cases h; exact .stay hp
  · next hp =>
    split at h
    · cases h
    · next i hi =>
      have hs := commandOf_spec hi
      exact exec_move (exists_word_of_wellFormed hs.2) (fun h => absurd h hp) (fun _ => .inl hs.1.symm) h

theorem hostWrite_move {e : Option Event} {off : Nat} {v : Word} {s t : State} (he : IsWrite e)
    (h : hostWrite off v s = .next t) : Move e s t := by
  unfold hostWrite at h
  split at h
  · cases h; exact .reject _ _ (by simp) (by simp) he
  · next hb =>
    have hb : s.busy = false := by simpa using hb
    split at h
    · unfold issueWord at h
      split at h
      · cases h; exact .reject _ _ (by simp) (by simp) he
      · next i hi => exact exec_move ⟨v, hi⟩ (fun _ => he) (fun _ => .inr hb) h
    · cases h; exact .operand _ _ hb
    · cases h; exact .stateWord _ _ hb
    · cases h; exact .reject _ _ (by simp) (by simp) he

theorem hostRead_move (e : Option Event) (off : Nat) (s : State) : Move e s (hostRead off s) := by
  unfold hostRead
  split
  case h_2 =>
    split
    · exact .answer _
    · next h => exact .sync (by simpa using h)
  all_goals first | exact .answer _ | (split <;> first | exact .answer _ | exact .answerFree)

theorem hostAccessFault_none {s : State} {a : Nat} (h : hostAccessFault s a = none) :
    a < 2 ^ s.cfg.addrWidth ∧ ordinary s.cfg a = true ∧ s.races a = false := by
  unfold hostAccessFault at h
  split at h
  · cases h
  · split at h
    · cases h
    · split at h
      · cases h
      · simp_all [inSpace]

/-- Every next state of a step is one of the moves. -/
theorem step_move {s t : State} (h : step s = .next t) : Move s.inbox.head? { s with inbox := s.inbox.tail } t := by
  unfold step takeTurn at h
  cases hin : s.inbox with
  | nil =>
    rw [hin] at h
    have hs : { s with inbox := [] } = s := by rw [← hin]
    simp only [List.head?_nil, List.tail_nil, hs]
    exact engineTurn_move h
  | cons e rest =>
    rw [hin] at h
    simp only [List.head?_cons, List.tail_cons]
    cases e with
    | engine => exact engineTurn_move h
    | busRead a n =>
      simp only [handle, busRead] at h
      split at h
      · cases h
      · cases h; exact hostRead_move _ _ _
    | busWrite a n v =>
      simp only [handle, busWrite] at h
      split at h
      · cases h
      · exact hostWrite_move ⟨_, _, _, rfl⟩ h
    | memRead a =>
      simp only [handle, dataRead] at h
      split at h
      · cases h
      · cases h
        split
        · exact .answerFreeByte
        · exact .answerByte _
    | memWrite a v =>
      simp only [handle, dataWrite] at h
      split at h
      · cases h
      · next hf =>
        cases h
        have := hostAccessFault_none hf
        exact .writeByte a v rfl this.1 this.2.2
    | reset =>
      simp only [handle] at h
      cases h; exact .reset rfl

end Sys2Proof.Machine
end

