-- ==== Sys2Proof/Tests/Slice0.lean ====
section
/-! SUPPORT. Tests: ill-formed terms, command words written out bit by bit, single steps with results from
spec/95_test_vectors.md, and one witness for the hypotheses of each statement. -/

set_option Elab.async false

namespace Sys2Proof.Tests

open Sys2Proof Sys2Proof.Machine

/-! ### Small states -/

/-- The example key K of 95_test_vectors.md. -/
def keyK : Vector Word 8 :=
  #v[0x03020100, 0x07060504, 0x0b0a0908, 0x0f0e0d0c, 0x13121110, 0x17161514, 0x1b1a1918, 0x1f1e1d1c]

/-- The example nonce N of 95_test_vectors.md. -/
def nonceN : DWord := 0x0123456789abcdef

/-- An idle block with every operand written: key K, nonce N, counter 2^32, `len` zero bytes at 0x1000, and the cipher
buffer at 0x2000. -/
def loaded (len : Nat) : State :=
  { State.reset with
    valid := 0x0003FFFF
    operands := { Operands.reset with
      key := keyK, nonceLo := nonceN.lo, nonceHi := nonceN.hi, counterHi := 1,
      mlenLo := BitVec.ofNat 32 len, msgAddrLo := 0x1000, ciphAddrLo := 0x2000 }
    mem := (List.range len).map fun i => (0x1000 + i, 0) }

/-- The block in which a command has been accepted. -/
def started (i : Instr) (len : Nat) : State :=
  { loaded len with
    ctrl := encode i, op := i.op, var := i.var, busy := true, phase := .start,
    lMlen := BitVec.ofNat 64 len, lMsg := 0x1000, lCiph := 0x2000 }

/-- A CRYPT that is about to generate its first block. -/
def generating (len : Nat) : State :=
  { started (.crypt 0) len with
    phase := .gen, matrix := build .descending keyK nonceN 0, svalid := 0x0000FFFF, unseen := [⟨0x2000, len⟩] }

/-- A CRYPT of `len` bytes that has ciphered `done` of its first 64, with the keystream block `ks`. -/
def ciphering (len done : Nat) (ks : Block) : State :=
  { generating len with phase := .xor, progress := BitVec.ofNat 64 done, ks := ks, valid := 0x0007FFFF }

/-- The first keystream block of K and N. -/
def ks0 : Block := salsaCore (build .descending keyK nonceN 0)

/-- A block of sixteen words, only the first of which is written out. -/
def firstWord (w : Word) : Block := (Vector.replicate 16 0).set 0 w

/-- The next state of an outcome. -/
def after : Host.Outcome State Fault Refusal → Option State
  | .next t => some t
  | .fault _ => none
  | .refused _ => none

/-- STATUS and ERR_INFO of the next state. -/
def seen (o : Host.Outcome State Fault Refusal) : Option (Word × Word) :=
  (after o).map fun t => (t.statusWord, t.errInfo)

/-- The parameters of V-M1 to V-M5. -/
def narrow : Params := { Params.default with addrWidth := 16 }

/-- An issue of CRYPT with the placement of 95_test_vectors.md section 6. -/
def placed (p : Params) (len msg ciph : DWord) : State :=
  { loaded 0 with
    cfg := p
    operands := { (loaded 0).operands with
      mlenLo := len.lo, mlenHi := len.hi, msgAddrLo := msg.lo, msgAddrHi := msg.hi,
      ciphAddrLo := ciph.lo, ciphAddrHi := ciph.hi } }

/-! ### Ill-formed terms (WellFormed) -/

theorem test_transform_variant_out_of_field : (Instr.transform 256).wellFormed = false := by decide +kernel
theorem test_crypt_variant_out_of_field : (Instr.crypt 256).wellFormed = false := by decide +kernel
theorem test_variant_255_is_encodable : (Instr.crypt 255).wellFormed = true := by decide +kernel
theorem test_addr_width_zero : ({ Params.default with addrWidth := 0 }).wellFormed = false := by decide +kernel
theorem test_addr_width_65 : ({ Params.default with addrWidth := 65 }).wellFormed = false := by decide +kernel
theorem test_reg_base_unaligned : ({ Params.default with regBase := 0x1004 }).wellFormed = false := by decide +kernel

/-! ### Words written out from 30_encoding.md R81: RES1, VAR, RES0, OP -/

theorem test_decode_nop : decode (0b0000000000000000#16 ++ 0b00000000#8 ++ 0b0000#4 ++ 0b0000#4) = some .nop := by decide +kernel
theorem test_decode_buildState :
    decode (0b0000000000000000#16 ++ 0b00000000#8 ++ 0b0000#4 ++ 0b0001#4) = some .buildState := by decide +kernel
theorem test_decode_setCounter :
    decode (0b0000000000000000#16 ++ 0b00000000#8 ++ 0b0000#4 ++ 0b0010#4) = some .setCounter := by decide +kernel
theorem test_decode_transform :
    decode (0b0000000000000000#16 ++ 0b10000001#8 ++ 0b0000#4 ++ 0b0011#4) = some (.transform 129) := by decide +kernel
theorem test_decode_crypt :
    decode (0b0000000000000000#16 ++ 0b00000010#8 ++ 0b0000#4 ++ 0b0100#4) = some (.crypt 2) := by decide +kernel
/-- V-E8 to V-E13, and the same with each reserved field of a TRANSFORM or CRYPT word. -/
theorem test_decode_illegal :
    [0x00000101, 0x00000014, 0x00000005, 0x00000007, 0x00010000, 0x80000003, 0x00000083, 0x00000044, 0x0000000F,
      0x00008000].map decode = List.replicate 10 none := by decide +kernel
theorem test_encode_words : encode .buildState = 0x00000001 ∧ encode (.transform 3) = 0x00000303 ∧
    encode (.crypt 255) = 0x0000FF04 := by decide +kernel
theorem test_decodeTableWord : decodeTableWord 32 0x00000204 = some (.crypt 2) ∧ decodeTableWord 32 0x14 = none := by decide +kernel

/-! ### Single steps, two for each command -/

/-- V-E1. -/
theorem test_nop_accepted : seen (step (State.reset.withFetchWord 32 0)) = some (0x00000001, 0) := by decide +kernel
/-- 43_control.md R187, its example. -/
theorem test_nop_finishes : seen (step (started .nop 0)) = some (0x00000002, 0) := by decide +kernel
/-- V-E2. -/
theorem test_buildState_without_key : seen (step (State.reset.withFetchWord 32 1)) = some (0x00000104, 0xff) := by decide +kernel
/-- V-B4: the counter 2^32, in the layout of V-B1. -/
theorem test_buildState_matrix : (after (step (started .buildState 0))).map State.matrix =
    some #v[0x61707865, 0x1f1e1d1c, 0x1b1a1918, 0x17161514, 0x13121110, 0x3320646e, 0x89abcdef, 0x01234567,
      0x00000000, 0x00000001, 0x79622d32, 0x0f0e0d0c, 0x0b0a0908, 0x07060504, 0x03020100, 0x6b206574] := by
  decide +kernel
/-- V-E3. -/
theorem test_setCounter_unset : seen (step (State.reset.withFetchWord 32 2)) = some (0x00000504, 0x0c00) := by decide +kernel
/-- V-B4 and V-B5: the counter 2^32 over a state of which no word is valid. -/
theorem test_setCounter_cells : (after (step (started .setCounter 0))).map
    (fun t => (t.matrix[7], t.matrix[8], t.matrix[9], t.matrix[10], t.svalid)) = some (0, 0, 1, 0, 0x00000300) := by
  decide +kernel
/-- V-E7. -/
theorem test_transform_variant : seen (step (State.reset.withFetchWord 32 0xff03)) = some (0x00000204, 0xff) := by decide +kernel
/-- V-B1k, first and last word, and VALID with KS_V. -/
theorem test_transform_keystream :
    (after (step { started (.transform 0) 0 with matrix := build .descending keyK nonceN 0 })).map
      (fun t => (t.ks[0], t.ks[15], t.valid)) = some (0x61cbdd2f, 0x5ab858cd, 0x0007FFFF) := by decide +kernel
/-- V-M1: the message range passes the top, the cipher range ends at it. -/
theorem test_crypt_range : seen (exec (.crypt 0) (placed narrow 0x10 0xFFF8 0xFFF0)) = some (0x00000704, 1) := by
  decide +kernel
/-- Program P2, bytes 2: 0x02 ^ 0xcb = 0xc9. -/
theorem test_crypt_byte : (after (step { ciphering 70 2 (firstWord 0x61cbdd2f) with mem := [(0x1002, 0x02)] })).map
    (fun t => (t.mem, t.progress)) = some ([(0x1002, 0x02), (0x2002, 0xc9)], 3) := by decide +kernel

/-! ### The shared operations -/

/-- V-Q6. -/
theorem test_quarterround : quarterround 0xe7e8c006 0xc4f9417d 0x6479b4b2 0x68c67137 =
    (0xe876d72b, 0x9361dfd5, 0xf1460244, 0x948541a3) := by decide +kernel
/-- V-R1. -/
theorem test_rowround : rowround #v[1, 0, 0, 0, 1, 0, 0, 0, 1, 0, 0, 0, 1, 0, 0, 0] =
    #v[0x08008145, 0x00000080, 0x00010200, 0x20500000, 0x20100001, 0x00048044, 0x00000080, 0x00010000,
      0x00000001, 0x00002000, 0x80040000, 0x00000000, 0x00000001, 0x00000200, 0x00402000, 0x88000100] := by decide +kernel
/-- V-R4a: the word of cell 1 is the d input of its column group. -/
theorem test_columnround : columnround ((Vector.replicate 16 0).set 1 1) =
    #v[0, 0x20100001, 0, 0, 0, 0x00048044, 0, 0, 0, 0x00000080, 0, 0, 0, 0x00010000, 0, 0] := by decide +kernel
/-- V-C4b. -/
theorem test_core : salsaCore (build .standard (Vector.replicate 8 0xffffffff) (BitVec.allOnes 64) (BitVec.allOnes 64)) =
    #v[0xce3869fc, 0xe4c46690, 0xad01b75c, 0x9a229fa4, 0x90537e88, 0x48f2968e, 0xf1b60a61, 0xf1394dd7,
      0xc3fd08c9, 0xd6c033ef, 0x8df5ff9c, 0x715dbe52, 0xc0dfbd1c, 0xc9c3d5b0, 0x55b00cb2, 0xd5102b3b] := by decide +kernel
/-- V-S10. -/
theorem test_ksbyte : [0, 1, 2, 3].map (ksbyte .big (firstWord 0x61cbdd2f)) = [0x61, 0xcb, 0xdd, 0x2f] ∧
    [0, 1, 2, 3].map (ksbyte .little (firstWord 0x61cbdd2f)) = [0x2f, 0xdd, 0xcb, 0x61] := by decide +kernel
/-- V-I2. -/
theorem test_caps : capsWord { Params.default with keyLayout := .standard, ksByteOrder := .big, addrWidth := 16 } =
    0x00010604 := by decide +kernel
/-- V-M2, V-M5, V-M6, V-M7 and V-M10. -/
theorem test_placement :
    seen (exec (.crypt 0) (placed narrow 0x10 0xFFF8 0x10000)) = some (0x00000704, 3) ∧
    seen (exec (.crypt 0) (placed narrow 0 0x10001 0)) = some (0x00000704, 1) ∧
    seen (exec (.crypt 0) (placed Params.default 0x10 0x100 0x108)) = some (0x00000804, 0) ∧
    seen (exec (.crypt 0) (placed Params.default 0x10 0x108 0x100)) = some (0x00000804, 0) ∧
    seen (exec (.crypt 0) (placed Params.default 0x20 0xFFFFFFFFFFFFFFF0 0x100)) = some (0x00000704, 1) := by
  decide +kernel
/-- V-M3, V-M4, V-M8 and V-M9 are accepted. -/
theorem test_placement_accepted :
    seen (exec (.crypt 0) (placed narrow 0x10 0 0xFFF0)) = some (1, 0) ∧
    seen (exec (.crypt 0) (placed narrow 0 0x10000 0)) = some (1, 0) ∧
    seen (exec (.crypt 0) (placed Params.default 0x10 0x100 0x110)) = some (1, 0) ∧
    seen (exec (.crypt 0) (placed Params.default 0x10 0x100 0x100)) = some (1, 0) := by decide +kernel
/-- V-X9: the write of byte 5 faults. -/
theorem test_bus_fault :
    (after (step { ciphering 6 5 (firstWord 0) with
      cfg := { Params.default with writeFaults := [⟨0x2005, 1⟩] } })).map
      (fun t => (t.statusWord, t.errInfo, t.faultAddr, t.progress, t.svalid, t.valid)) =
    some (0x00000906, 1, 0x2005, 5, 0, 0x0003FFFF) := by decide +kernel
/-- V-X4. -/
theorem test_write_while_busy :
    seen (step { ciphering 4 1 (firstWord 0) with inbox := [.busWrite 0 4 0] }) = some (0x00000405, 0) := by decide +kernel
/-- 70_reset_and_hazards.md R240: a read of STATUS synchronises at its first BUSY = 0, and a read of PROGRESS does not. -/
theorem test_status_read_synchronises :
    [(true, 0x004), (false, 0x020), (false, 0x004)].map (fun p =>
      (hostRead p.2 { ciphering 4 1 (firstWord 0) with busy := p.1 }).isUnseen 0x2003) = [true, true, false] := by
  decide +kernel

/-! ### Witnesses for the hypotheses of the statements -/

/-- The block with `e` as its next event. -/
def facing (s : State) (e : Event) : State := { s with inbox := [e] }

/-- A host access of the register at offset 0x040 + 4k, and the window around it. -/
def writing (s : State) (off : Nat) (v : Word) : State := facing s (.busWrite off 4 v)

/-- See `writing`. -/
def reading (s : State) (off : Nat) : State := facing s (.busRead off 4)

theorem nextWrite_writing (s : State) (off : Nat) (v : Word) (h0 : s.cfg.regBase = 0) (h : off < 0x1000 ∧ off % 4 = 0) :
    NextWrite (writing s off v) off v [] :=
  ⟨h.1, h.2, by show [Event.busWrite off 4 v] = [.busWrite (s.cfg.regBase + off) 4 v]; rw [h0, Nat.zero_add]⟩

theorem nextRead_reading (s : State) (off : Nat) (h0 : s.cfg.regBase = 0) (h : off < 0x1000 ∧ off % 4 = 0) :
    NextRead (reading s off) off [] :=
  ⟨h.1, h.2, by show [Event.busRead off 4] = [.busRead (s.cfg.regBase + off) 4]; rw [h0, Nat.zero_add]⟩

theorem witness_DecodeOfEncodeIsTheCommand :
    Instr.nop.wellFormed = true ∧ (Instr.transform 0).wellFormed = true ∧ (Instr.crypt 255).wellFormed = true := by decide

theorem witness_EncodeOfDecodeIsTheWord : decode 0x0000FF03 = some (.transform 255) := by decide +kernel

theorem witness_WorkedWordsAreReported : (loaded 1).phase = .idle ∧ (loaded 1).busy = false := by decide

theorem witness_StepRunsTheIssuedCommand :
    (NextWrite (writing (loaded 1) 0 0x00000204) 0 0x00000204 [] ∧ (loaded 1).busy = false ∧
      decode 0x00000204 = some (.crypt 2)) ∧
    (NextWrite (writing (loaded 1) 0 0x00000014) 0 0x00000014 [] ∧ decode 0x00000014 = none) :=
  ⟨⟨nextWrite_writing _ _ _ rfl (by decide), rfl, by decide +kernel⟩, nextWrite_writing _ _ _ rfl (by decide),
    by decide +kernel⟩

theorem witness_StepRunsTheEngineCommand :
    (∀ i ∈ [Instr.nop, .buildState, .setCounter, .transform 3, .crypt 3],
      (started i 1).phase ≠ .idle ∧ (started i 1).inbox = [] ∧ (facing (started i 1) .engine).inbox = [.engine]) ∧
    [Instr.nop, .buildState, .setCounter, .transform 3, .crypt 3].map (fun i => (started i 1).op) = [0, 1, 2, 3, 4] ∧
    5 ≤ ({ started .nop 1 with op := 5 } : State).op.toNat ∧ 5 ≤ ({ started .nop 1 with op := 15 } : State).op.toNat := by
  decide +kernel

theorem witness_IdleEngineKeepsTheState : (loaded 1).phase = .idle ∧ (loaded 1).inbox = [] ∧
    (facing (loaded 1) .engine).phase = .idle ∧ (facing (loaded 1) .engine).inbox = [.engine] := by decide +kernel

theorem witness_WriteWhileBusyIsRejected :
    (∀ off ∈ [0, 0x040, 0xFFC], NextWrite (writing (started (.crypt 0) 1) off 7) off 7 []) ∧
    (started (.crypt 0) 1).busy = true :=
  ⟨fun off h => nextWrite_writing _ _ _ rfl (by revert off; decide), rfl⟩

theorem witness_OperandWriteStoresAndMarks :
    (∀ r ∈ [OperandReg.key 0, .key 7, .nonceLo, .ciphAddrHi],
      NextWrite (writing State.reset (operandOffset r) 7) (operandOffset r) 7 []) ∧ State.reset.busy = false :=
  ⟨fun r h => nextWrite_writing _ _ _ rfl (by revert r; decide), rfl⟩

theorem witness_StateWordWriteStoresAndMarks :
    (∀ i ∈ [(0 : Fin 16), 15], NextWrite (writing State.reset (0x0C0 + 4 * i.val) 7) (0x0C0 + 4 * i.val) 7 []) ∧
    State.reset.busy = false :=
  ⟨fun i h => nextWrite_writing _ _ _ rfl (by revert i; decide), rfl⟩

theorem witness_ReadOnlyWriteIsRejected :
    ∀ off ∈ [0x004, 0x03C, 0x088, 0x0BC, 0x100, 0xFFC], NextWrite (writing State.reset off 7) off 7 [] ∧
      (0x004 ≤ off ∧ off ≤ 0x03C ∨ 0x088 ≤ off ∧ off ≤ 0x0BC ∨ 0x100 ≤ off) :=
  fun off h => ⟨nextWrite_writing _ _ _ rfl (by revert off; decide), by revert off; decide⟩

theorem witness_OtherAccessFormsAreRefused :
    (2 ≠ 4 ∧ (facing (loaded 1) (.busRead 0 2)).inbox = [.busRead 0 2]) ∧
    (0xFFC < ({ narrow with regBase := 0x1000 }).regBase ∧ (facing (loaded 1) (.busRead 0xFFC 4)).inbox = [.busRead 0xFFC 4]) ∧
    ((loaded 1).cfg.regBase + 0x1000 ≤ 0x1000 ∧ (facing (loaded 1) (.busWrite 0x1000 4 7)).inbox = [.busWrite 0x1000 4 7]) ∧
    ((0xFFF - (loaded 1).cfg.regBase) % 4 ≠ 0 ∧ (facing (loaded 1) (.busWrite 0xFFF 4 7)).inbox = [.busWrite 0xFFF 4 7]) := by
  decide +kernel

/-- The clauses by offset; the last offset of each range stands beside its first. -/
theorem witness_HostReadReturnsTheRegister :
    (∀ off ∈ [0x000, 0x004, 0x008, 0x00C, 0x010, 0x014, 0x018, 0x01C, 0x020, 0x024, 0x028, 0x03C, 0x040, 0x084, 0x088,
      0x0BC, 0x0C0, 0x0FC, 0x100, 0x13C, 0x140, 0xFFC], NextRead (reading (loaded 1) off) off []) ∧
    operandOffset (.key 0) = 0x040 ∧ operandOffset .ciphAddrHi = 0x084 ∧
    (∀ off ∈ [0x040, 0x084], (loaded 1).valid.getLsbD ((off - 0x040) / 4) = true) ∧
    (loaded 1).busy = false ∧
    ({ generating 1 with busy := false } : State).svalid.getLsbD 0 = true ∧
    ({ generating 1 with busy := false } : State).svalid.getLsbD 15 = true ∧
    ({ ciphering 1 0 ks0 with busy := false } : State).valid.getLsbD 18 = true :=
  ⟨fun off h => nextRead_reading _ _ rfl (by revert off; decide), by decide +kernel⟩

theorem witness_UnspecifiedReadReturnsAFreeValue :
    (NextRead (reading State.reset 0x040) 0x040 [] ∧ State.reset.valid.getLsbD ((0x040 - 0x040) / 4) = false) ∧
    (NextRead (reading State.reset 0x0FC) 0x0FC [] ∧ State.reset.svalid.getLsbD 15 = false) ∧
    (NextRead (reading (started (.crypt 0) 1) 0x13C) 0x13C [] ∧ (started (.crypt 0) 1).busy = true) ∧
    (∀ a ∈ [0x2000, 0x2001],
      let s := facing { loaded 2 with unseen := [⟨0x2000, 2⟩] } (.memRead a)
      s.inbox = [.memRead a] ∧ a < 2 ^ s.cfg.addrWidth ∧ ordinary s.cfg a = true ∧ s.races a = false ∧
      (⟨0x2000, 2⟩ : Span) ∈ s.unseen ∧ 0x2000 ≤ a ∧ a < 0x2000 + 2) :=
  ⟨⟨nextRead_reading _ _ rfl (by decide), by decide +kernel⟩, ⟨nextRead_reading _ _ rfl (by decide), by decide +kernel⟩,
    ⟨nextRead_reading _ _ rfl (by decide), rfl⟩, by decide +kernel⟩

theorem witness_StatusAndCapsFieldsAsRead :
    Params.default.wellFormed = true ∧ ({ narrow with addrWidth := 1 }).wellFormed = true := by decide +kernel

theorem ready_loaded {i : Instr} (h : i ∈ [Instr.nop, .buildState, .setCounter, .crypt 3]) : Ready i (loaded 1) := by
  unfold Ready
  revert i
  decide +kernel

theorem witness_AcceptRecordsTheCommand :
    decode 0x00000001 = some .buildState ∧ decode 0x00000304 = some (.crypt 3) ∧ (loaded 1).phase = .idle ∧
    Ready .buildState (loaded 1) ∧ Ready (.crypt 3) (loaded 1) ∧ ∀ v, Instr.buildState ≠ .crypt v :=
  ⟨by decide +kernel, by decide +kernel, rfl, ready_loaded (by decide), ready_loaded (by decide), by simp⟩

theorem witness_AcceptOfCryptLatchesTheOperands :
    decode 0x00000304 = some (.crypt 3) ∧ (loaded 1).phase = .idle ∧ Ready (.crypt 3) (loaded 1) :=
  ⟨by decide +kernel, rfl, ready_loaded (by decide)⟩

theorem witness_IssueReportsTheFirstFailingCheck :
    State.reset.phase = .idle ∧
    ({ State.reset with valid := 0xFFFFFF7F } : State).valid.getLsbD 7 = false ∧
    (∀ k, k < 8 → ({ State.reset with valid := 0x000007FF } : State).valid.getLsbD k = true) ∧
    0x00000F00 &&& ~~~({ State.reset with valid := 0x000007FF } : State).valid ≠ 0 ∧
    (∀ k, k < 12 → (loaded 1).valid.getLsbD k = true) ∧
    0x00000C00 &&& ~~~State.reset.valid ≠ 0 ∧
    ((loaded 1).valid.getLsbD 10 = true ∧ (loaded 1).valid.getLsbD 11 = true) ∧
    4 ≤ 4 ∧ 3 < 4 ∧ State.reset.svalid ≠ 0x0000FFFF ∧ (generating 1).svalid = 0x0000FFFF := by decide +kernel

/-- One state for each report, the range at its two sides, and the accept with adjacent buffers, with the same buffer
twice and with a buffer that ends at the top. -/
theorem witness_CryptReportsTheFirstFailingCheck :
    (4 ≤ 4 ∧ 3 < 4 ∧ State.reset.phase = .idle ∧ State.reset.valid.getLsbD 0 = false) ∧
    ((∀ k, k < 8 → ({ loaded 1 with valid := 0x0001F3FF } : State).valid.getLsbD k = true) ∧
      0x0003F300 &&& ~~~({ loaded 1 with valid := 0x0001F3FF } : State).valid ≠ 0) ∧
    ((∀ k, k < 8 → (loaded 1).valid.getLsbD k = true) ∧ 0x0003F300 &&& ~~~(loaded 1).valid = 0) ∧
    (∀ s ∈ [placed narrow 1 0x10000 0, placed narrow 1 0 0x10000], 2 ^ s.cfg.addrWidth < s.operands.msg.toNat + s.operands.mlen.toNat ∨
      2 ^ s.cfg.addrWidth < s.operands.ciph.toNat + s.operands.mlen.toNat) ∧
    (∀ s ∈ [placed narrow 2 0xFFFE 0xFFFD], 2 ^ s.cfg.addrWidth = s.operands.msg.toNat + s.operands.mlen.toNat ∧
      ¬2 ^ s.cfg.addrWidth < s.operands.ciph.toNat + s.operands.mlen.toNat ∧ s.operands.msg ≠ s.operands.ciph ∧
      0 < s.operands.mlen.toNat ∧ 1 < s.operands.mlen.toNat ∧ s.operands.msg.toNat + 0 = s.operands.ciph.toNat + 1) ∧
    Ready (.crypt 3) (placed narrow 2 0xFFFE 0xFFFC) ∧ Ready (.crypt 3) (placed narrow 2 0xFFFE 0xFFFE) := by
  unfold Ready
  decide +kernel

/-- For NopFinishesAndDoesNothing, BuildStateWritesTheMatrix, SetCounterWritesTheCounterCells and
TransformWritesTheKeystream. -/
theorem witness_engineStepOfAStartedCommand :
    (started .nop 1).phase = .start ∧ (started .buildState 1).phase = .start ∧ (started .setCounter 1).phase = .start ∧
    (started (.transform 3) 1).phase = .start := by decide +kernel

theorem witness_BuildLosesNothing : build .descending keyK nonceN 1 = build .descending keyK nonceN 1 := rfl

theorem witness_SetCounterEqualsRebuilding :
    let s := { started .setCounter 1 with matrix := build .descending keyK nonceN 7 }
    s.phase = .start ∧ s.matrix = build s.cfg.keyLayout s.operands.key s.operands.nonce 7 := by decide +kernel

theorem witness_ZeroOperandsBuildTheKnownVector :
    let s := { started .buildState 0 with operands := Operands.reset }
    s.phase = .start ∧ s.operands.key = Vector.replicate 8 0 ∧ s.operands.nonce = 0 ∧ s.operands.counter = 0 := by
  decide +kernel

theorem witness_RotationMovesEachBit : 0 < 1 ∧ 31 < 32 := by decide

theorem witness_GroupOrderDoesNotMatter : List.Perm [3, 1, 0, 2] ([0, 1, 2, 3] : List (Fin 4)) := by decide

theorem witness_TransformOfUniformStates :
    (started (.transform 0) 0).phase = .start ∧ (started (.transform 0) 0).matrix = Vector.replicate 16 0 ∧
    ({ started (.transform 0) 0 with matrix := Vector.replicate 16 0xFFFFFFFF } : State).phase = .start := by decide +kernel

theorem witness_TransformAfterBuildGivesAKeystreamBlock :
    let s := { loaded 1 with inbox := [.busWrite 0 4 0x00000001, .engine,
      .busWrite 0 4 (0x00000003 ||| (BitVec.ofNat 32 3 <<< 8)), .engine] }
    s.phase = .idle ∧ s.busy = false ∧ Ready .buildState s ∧ 3 < 4 ∧
    s.inbox = [.busWrite s.cfg.regBase 4 0x00000001, .engine,
      .busWrite s.cfg.regBase 4 (0x00000003 ||| (BitVec.ofNat 32 3 <<< 8)), .engine] := by
  unfold Ready
  decide +kernel

theorem witness_CryptSetupBuildsWithCounterZero :
    (started (.crypt 0) 1).phase = .start ∧ (started (.crypt 0) 1).buffersOrdinary = true ∧ (started (.crypt 0) 1).lMlen ≠ 0 ∧
    (started (.crypt 0) 0).phase = .start ∧ (started (.crypt 0) 0).buffersOrdinary = true ∧ (started (.crypt 0) 0).lMlen = 0 := by
  decide +kernel

theorem witness_CryptGenerationStepWritesKs :
    (generating 1).phase = .gen ∧ (generating 1).buffersOrdinary = true := by decide +kernel

/-- A byte inside a block, the byte that ends a block, and the last byte. -/
theorem witness_CryptByteStepCiphersOneByte :
    ∀ s ∈ [ciphering 70 0 ks0, ciphering 70 63 ks0, ciphering 6 5 ks0],
      s.phase = .xor ∧ s.buffersOrdinary = true ∧ s.lMsg.toNat + s.progress.toNat < 2 ^ s.cfg.addrWidth ∧
      s.lCiph.toNat + s.progress.toNat < 2 ^ s.cfg.addrWidth ∧
      memFault s.cfg .read (s.lMsg.toNat + s.progress.toNat) = false ∧
      memFault s.cfg .write (s.lCiph.toNat + s.progress.toNat) = false := by decide +kernel

theorem witness_BusFaultAbortsCryptPrecisely :
    ∀ p ∈ [{ Params.default with readFaults := [⟨0x1005, 1⟩] }, { Params.default with writeFaults := [⟨0x2005, 1⟩] }],
      let s := { ciphering 6 5 ks0 with cfg := p }
      s.phase = .xor ∧ s.buffersOrdinary = true ∧ s.lMsg.toNat + s.progress.toNat < 2 ^ s.cfg.addrWidth ∧
      s.lCiph.toNat + s.progress.toNat < 2 ^ s.cfg.addrWidth ∧
      (memFault s.cfg .read (s.lMsg.toNat + s.progress.toNat) = true ∨
        memFault s.cfg .write (s.lCiph.toNat + s.progress.toNat) = true) := by decide +kernel

theorem witness_CryptOverDeviceMemoryStops :
    let s := { generating 2 with cfg := { Params.default with sideEffects := [⟨0x1001, 4⟩] } }
    s.phase ≠ .idle ∧ (⟨0x1001, 4⟩ : Span) ∈ s.cfg.sideEffects ∧ Span.has ⟨0x1001, 4⟩ 0x1001 = true ∧
    s.msgRange.has 0x1001 = true := by decide +kernel

theorem canIssue_loaded : CanIssue (.crypt 3) (loaded 1) := ⟨rfl, rfl, rfl, ready_loaded (by decide)⟩

theorem buffersUsable_loaded : BuffersUsable (loaded 1) :=
  ⟨by decide +kernel, by decide +kernel, by decide +kernel, by decide +kernel⟩

/-- For CryptCiphersTheMessage and CryptTakesItsStepCount. -/
theorem witness_CryptCiphersTheMessage : CanIssue (.crypt 3) (loaded 1) ∧ BuffersUsable (loaded 1) :=
  ⟨canIssue_loaded, buffersUsable_loaded⟩

/-- The end of the CRYPT of one zero byte. -/
def ciphered : State := (after (run 4 ((loaded 1).withIssue (encode (.crypt 3))))).getD State.reset

theorem run_of_after {o : Host.Outcome State Fault Refusal} (h : (after o).isSome = true) :
    o = .next ((after o).getD State.reset) := by
  cases o <;> simp_all [after]

theorem cryptEndsIn_ciphered : CryptEndsIn 3 (loaded 1) ciphered := run_of_after (by decide +kernel)

/-- The block that decrypts it, from 0x2000 to 0x3000. The cipher byte is `2f` (V-S2). -/
def decrypting : State :=
  { loaded 1 with
    operands := { (loaded 1).operands with msgAddrLo := 0x2000, ciphAddrLo := 0x3000 }, mem := [(0x2000, 0x2f)] }

theorem witness_CryptTwiceReturnsTheMessage :
    CanIssue (.crypt 3) (loaded 1) ∧ BuffersUsable (loaded 1) ∧ CryptEndsIn 3 (loaded 1) ciphered ∧
    CanIssue (.crypt 0) decrypting ∧ BuffersUsable decrypting ∧
    decrypting.cfg.keyLayout = (loaded 1).cfg.keyLayout ∧ decrypting.cfg.ksByteOrder = (loaded 1).cfg.ksByteOrder ∧
    decrypting.operands.key = (loaded 1).operands.key ∧ decrypting.operands.nonce = (loaded 1).operands.nonce ∧
    decrypting.operands.mlen = (loaded 1).operands.mlen ∧
    ∀ i < (loaded 1).operands.mlen.toNat,
      decrypting.mem.byteAt (decrypting.operands.msg.toNat + i) =
        ciphered.mem.byteAt ((loaded 1).operands.ciph.toNat + i) := by
  refine ⟨canIssue_loaded, buffersUsable_loaded, cryptEndsIn_ciphered, ⟨rfl, rfl, rfl, ?_⟩, ⟨?_, ?_, ?_, ?_⟩, ?_⟩
  · unfold Ready; decide +kernel
  all_goals decide +kernel

theorem witness_CryptDoesNotDependOnTheVariant :
    CanIssue (.crypt 3) (loaded 1) ∧ 0 < 4 ∧ CryptEndsIn 3 (loaded 1) ciphered :=
  ⟨canIssue_loaded, by decide, cryptEndsIn_ciphered⟩

/-- The issue of a CRYPT of one byte, a rejected write and a read of STATUS during it, and its engine steps. -/
def interleaved : State :=
  { loaded 1 with inbox := [.busWrite 0 4 (encode (.crypt 3)), .engine, .busWrite 0x040 4 7, .busRead 0x004 4,
      .memWrite 0x1001 7, .engine] }

/-- The end of it. -/
def interleavedEnd : State := (after (run 7 interleaved)).getD State.reset

theorem witness_CryptEndStateUnderAnyInterleaving :
    CryptRuns 3 7 interleaved interleavedEnd ∧ interleavedEnd.errCode ≠ .bus := by
  have h : ∀ k, k < 7 → ∀ u, run k interleaved = .next u →
      (0 < k → u.busy = true) ∧ u.inbox.head? ≠ some .reset := by
    have hk : ∀ k, k < 7 → ((after (run k interleaved)).all fun u =>
        (decide (k = 0) || u.busy) && decide (u.inbox.head? ≠ some .reset)) = true := by decide +kernel
    intro k hk7 u hu
    have := hk k hk7
    rw [hu] at this
    simp only [after, Option.all_some, Bool.and_eq_true, Bool.or_eq_true, decide_eq_true_eq] at this
    exact ⟨fun h0 => this.1.resolve_left (by omega), this.2⟩
  refine ⟨⟨⟨_, rfl⟩, rfl, rfl, ?_, run_of_after (by decide +kernel), by decide, fun k u h0 h7 hu => (h k h7 u hu).1 h0,
    fun k u rest h7 hu hin => (h k h7 u hu).2 (by rw [hin]; rfl), by decide +kernel⟩, by decide +kernel⟩
  unfold Ready
  decide +kernel

theorem inv_reset : Inv State.reset := by
  constructor <;> first | decide +kernel | simp [State.reset]

theorem inv_generating : Inv (generating 1) := by
  constructor
  case running =>
    intro _
    refine ⟨.crypt 0, by decide +kernel, by decide +kernel, ?_⟩
    unfold Ready
    decide +kernel
  case latched => exact fun _ _ => ⟨by decide +kernel, by decide +kernel, by decide +kernel⟩
  case blockStart => exact fun _ => ⟨⟨by decide +kernel, by decide +kernel, by decide +kernel, by decide +kernel⟩, by decide +kernel⟩
  case inBlock => exact fun h => absurd h (by decide +kernel)
  all_goals decide +kernel

theorem inv_ciphering : Inv (ciphering 1 0 ks0) := by
  constructor
  case running =>
    intro _
    refine ⟨.crypt 0, by decide +kernel, by decide +kernel, ?_⟩
    unfold Ready
    decide +kernel
  case latched => exact fun _ _ => ⟨by decide +kernel, by decide +kernel, by decide +kernel⟩
  case blockStart => exact fun h => absurd h (by decide +kernel)
  case inBlock =>
    exact fun _ => ⟨⟨by decide +kernel, by decide +kernel, by decide +kernel, by decide +kernel⟩, by decide +kernel, by decide +kernel⟩
  all_goals decide +kernel

/-- A TRANSFORM that has been accepted. -/
def transforming : State := { started (.transform 0) 1 with matrix := firstWord 1, svalid := 0x0000FFFF }

theorem inv_transforming : Inv transforming := by
  constructor
  case running =>
    intro _
    refine ⟨.transform 0, by decide +kernel, by decide +kernel, ?_⟩
    unfold Ready
    decide +kernel
  case latched => exact fun _ h => absurd h (by decide +kernel)
  case blockStart => exact fun h => absurd h (by decide +kernel)
  case inBlock => exact fun h => absurd h (by decide +kernel)
  all_goals decide +kernel

/-- The first clause at phase GEN and at phase XOR; the step of each ends with SVALID as the second clause asks. -/
theorem witness_CounterNeverPassesItsBound :
    (Inv (generating 1) ∧ (generating 1).phase = .gen ∧
      (after (exec (.crypt 0) (generating 1))).map State.svalid = some 0x0000FFFF) ∧
    (Inv (ciphering 1 0 ks0) ∧ (ciphering 1 0 ks0).phase = .xor ∧
      (after (exec (.crypt 0) (ciphering 1 0 ks0))).map State.svalid = some 0x0000FFFF) :=
  ⟨⟨inv_generating, by decide +kernel, by decide +kernel⟩, inv_ciphering, by decide +kernel, by decide +kernel⟩

theorem witness_HostReadsTheByteItWrote :
    (∀ a ∈ [0x1FFF, 0x2002],
      let s := facing { loaded 2 with unseen := [⟨0x2000, 2⟩] } (.memRead a)
      s.inbox = [.memRead a] ∧ a < 2 ^ s.cfg.addrWidth ∧ ordinary s.cfg a = true ∧ s.races a = false ∧
      ∀ r ∈ s.unseen, a < r.base ∨ r.base + r.size ≤ a) ∧
    (let s := { generating 2 with cfg := narrow, inbox := [.memWrite 0xFFFF 7, .memRead 0xFFFF] }
     s.inbox = .memWrite 0xFFFF 7 :: .memRead 0xFFFF :: [] ∧ 0xFFFF < 2 ^ s.cfg.addrWidth ∧ ordinary s.cfg 0xFFFF = true ∧
     s.races 0xFFFF = false ∧ ∀ r ∈ s.unseen, 0xFFFF < r.base ∨ r.base + r.size ≤ 0xFFFF) := by decide +kernel

/-- The first and the last byte of each range. -/
theorem witness_HostAccessToBusyBuffersRaces :
    ∀ a ∈ [0x1000, 0x1001, 0x2000, 0x2001],
      let s := facing (generating 2) (.memWrite a 7)
      s.inbox = [.memWrite a 7] ∧ (facing (generating 2) (.memRead a)).inbox = [.memRead a] ∧
      a < 2 ^ s.cfg.addrWidth ∧ ordinary s.cfg a = true ∧ s.busy = true ∧ s.op = 4 ∧
      (s.lMsg.toNat ≤ a ∧ a < s.lMsg.toNat + s.lMlen.toNat ∨ s.lCiph.toNat ≤ a ∧ a < s.lCiph.toNat + s.lMlen.toNat) := by
  decide +kernel

theorem step_of_after {s t : State} (h : after (step s) = some t) : step s = .next t := by
  cases hs : step s <;> simp_all [after]

theorem not_reset {s : State} (h : s.inbox.head? ≠ some .reset) : ¬NextIsReset s :=
  fun ⟨_, hr⟩ => h (by rw [hr]; rfl)

/-- A CRYPT generates a block; the host reads a byte between two byte steps. -/
theorem witness_MemoryChangesOnlyByStoresAndReset :
    (step (generating 1) = .next (generating 1).genStep ∧ (generating 1).phase ≠ .xor ∧ ¬NextIsReset (generating 1) ∧
      ∀ a b rest, (generating 1).inbox ≠ .memWrite a b :: rest) ∧
    (let s := facing (ciphering 1 0 ks0) (.memRead 0x3000)
     (after (step s)).isSome = true ∧ s.phase = .xor ∧ s.busy = true ∧ s.inbox = .memRead 0x3000 :: [] ∧
      Event.memRead 0x3000 ≠ .engine ∧ ¬NextIsReset s ∧ ∀ a b rest, s.inbox ≠ .memWrite a b :: rest) :=
  ⟨⟨step_of_after (by decide +kernel), by decide +kernel, not_reset (by decide +kernel),
      by simp [generating, started, loaded, State.reset]⟩,
    by decide +kernel, by decide +kernel, by decide +kernel, rfl, by decide, not_reset (by decide +kernel),
    by simp [facing]⟩

theorem witness_ResetEndsTheCommand :
    (facing (generating 1) .reset).inbox = .reset :: [] ∧ (facing (generating 1) .reset).cryptBusy = true ∧
    (facing (loaded 1) .reset).inbox = .reset :: [] ∧ (facing (loaded 1) .reset).cryptBusy = false := by decide +kernel

theorem witness_StepKeepsTheInvariant : Inv (generating 1) ∧ step (generating 1) = .next (generating 1).genStep :=
  ⟨inv_generating, step_of_after (by decide +kernel)⟩

theorem witness_OperandsAndParametersStay :
    step (generating 1) = .next (generating 1).genStep ∧ (generating 1).busy = true ∧ ¬NextIsReset (generating 1) :=
  ⟨step_of_after (by decide +kernel), by decide +kernel, not_reset (by decide +kernel)⟩

theorem witness_HostActsLeaveTheCommandAlone :
    let s := facing (generating 1) (.memWrite 0x1001 7)
    s.inbox = .memWrite 0x1001 7 :: [] ∧ Event.memWrite 0x1001 7 ≠ .engine ∧ Event.memWrite 0x1001 7 ≠ .reset ∧
    s.busy = true ∧ s.op = 4 ∧ (after (step s)).isSome = true := by decide +kernel

/-- Bit 17 of VALID over a generation step, bit 15 of SVALID over it and over an abort, and KS_V over both. -/
theorem witness_ValidBitsClearedOnlyByResetOrAbort :
    step (generating 1) = .next (generating 1).genStep ∧ ¬NextIsReset (generating 1) ∧
    (generating 1).valid.getLsbD 17 = true ∧ (generating 1).svalid.getLsbD 15 = true ∧
    (ciphering 1 0 ks0).valid.getLsbD 18 = true ∧
    (after (step { ciphering 1 0 ks0 with cfg := { Params.default with readFaults := [⟨0x1000, 1⟩] } })).map
      (fun t => t.errCode) = some .bus :=
  ⟨step_of_after (by decide +kernel), not_reset (by decide +kernel), by decide +kernel, by decide +kernel, by decide +kernel,
    by decide +kernel⟩

/-- An accept, a rejected write, a read that reports nothing and a bus-fault abort, each over a report. -/
theorem witness_ReportStaysUntilAcceptOrReset :
    let s := { writing (loaded 1) 0 0 with err := true, errCode := .variant, errInfo := 4 }
    (s.err = true ∧ (after (step s)).map State.err = some false ∧ ¬NextIsReset s) ∧
    ∀ u ∈ [writing s 0x004 7, reading s 0x004,
      { ciphering 6 5 ks0 with err := true, errCode := .busy, cfg := { Params.default with readFaults := [⟨0x1005, 1⟩] } }],
      u.err = true ∧ (after (step u)).map State.err = some true ∧ ¬NextIsReset u :=
  ⟨⟨rfl, by decide +kernel, not_reset (by decide +kernel)⟩, fun u hu =>
    have h : u.err = true ∧ (after (step u)).map State.err = some true ∧ u.inbox.head? ≠ some .reset := by
      revert u; decide +kernel
    ⟨h.1, h.2.1, not_reset h.2.2⟩⟩

/-- A generation step of CRYPT, and a TRANSFORM. -/
theorem witness_KeystreamWrittenOnlyByTransformAndCrypt :
    (Inv (generating 1) ∧ step (generating 1) = .next (generating 1).genStep ∧ ¬NextIsReset (generating 1) ∧
      (generating 1).genStep.ks ≠ (generating 1).ks) ∧
    (Inv transforming ∧ step transforming = .next transforming.transformStep ∧ ¬NextIsReset transforming ∧
      transforming.transformStep.ks ≠ transforming.ks) :=
  ⟨⟨inv_generating, step_of_after (by decide +kernel), not_reset (by decide +kernel), by decide +kernel⟩,
    inv_transforming, step_of_after (by decide +kernel), not_reset (by decide +kernel), by decide +kernel⟩

end Sys2Proof.Tests
end

/-! PROOF. The statements about the state (10_state.md). The invariant is cut into what holds of a block in any phase
(`Sound`) and what holds of a running command (`Running`); one lemma for each move of `Move` says that it keeps both. -/

namespace Sys2Proof.Machine

section StateProofs

variable {s t : State}

/-! ### Commands and their checks -/

theorem wellFormed_of_decode {w : Word} {i : Instr} (h : decode w = some i) : i.wellFormed = true := by
  unfold decode at h
  split at h
  · cases h
  split at h
  case h_4 | h_5 => cases h; exact decide_eq_true (BitVec.isLt _)
  case h_6 => cases h
  all_goals
    split at h
    · cases h; rfl
    · cases h

@[simp] theorem opField_encode (i : Instr) : opField (encode i) = i.op := opField_commandWord _ _

@[simp] theorem varField_encode (i : Instr) : varField (encode i) = i.var := varField_commandWord _ _

/-- The accept of a command latches that command (43_control.md R183). -/
theorem commandOf_op_var {i : Instr} (h : i.wellFormed = true) : commandOf i.op i.var = some i := by
  cases i with
  | transform v | crypt v =>
    have hv : v % 256 = v := Nat.mod_eq_of_lt (of_decide_eq_true h)
    simp [commandOf, Instr.op, Instr.var, hv]
  | _ => rfl

theorem Instr.eq_crypt_of_op {i : Instr} (h : i.op = 4) : ∃ v, i = .crypt v := by
  cases i with
  | crypt v => exact ⟨v, rfl⟩
  | _ => exact absurd h (by simp [Instr.op])

/-- A command that passes its checks still does when valid bits are added and the operands and parameters stay. -/
theorem Ready.mono {i : Instr} (h : Ready i s) (hc : t.cfg = s.cfg) (ho : t.operands = s.operands)
    (hv : ∀ k, s.valid.getLsbD k = true → t.valid.getLsbD k = true)
    (hs : s.svalid = allStateValid → t.svalid = allStateValid) : Ready i t := by
  have key : keyCheck s = none → keyCheck t = none := by
    simp only [keyCheck_none]
    exact fun h k hk => hv k (h k hk)
  have operand (m : Word) : operandCheck m s = none → operandCheck m t = none := by
    simp only [operandCheck_none]
    exact fun h k hk => hv k (h k hk)
  have state : stateCheck s = none → stateCheck t = none := by simpa only [stateCheck_none] using hs
  have range : rangeCheck t = rangeCheck s := by simp only [rangeCheck, hc, ho]
  have overlap : overlapCheck t = overlapCheck s := by simp only [overlapCheck, ho]
  unfold Ready at h ⊢
  rw [firstFailure_none] at h ⊢
  cases i <;>
    simp only [checksOf, buildStateChecks, setCounterChecks, transformChecks, cryptChecks, List.forall_mem_cons,
      range, overlap] at h ⊢
  case nop => exact h
  case buildState => obtain ⟨hk, hop, hnil⟩ := h; exact ⟨key hk, operand _ hop, hnil⟩
  case setCounter => obtain ⟨hop, hnil⟩ := h; exact ⟨operand _ hop, hnil⟩
  case transform => obtain ⟨hvar, hst, hnil⟩ := h; exact ⟨hvar, state hst, hnil⟩
  case crypt => obtain ⟨hvar, hk, hop, hrest⟩ := h; exact ⟨hvar, key hk, operand _ hop, hrest⟩

/-- An accepted CRYPT writes inside the data address space (60_exceptions.md R203, check 7). -/
theorem Ready.cipher_le {v : Nat} (h : Ready (.crypt v) s) :
    s.operands.ciph.toNat + s.operands.mlen.toNat ≤ 2 ^ s.cfg.addrWidth := by
  have hr : rangeCheck s = none := (firstFailure_none _).1 h _ (by simp [checksOf, cryptChecks])
  exact ((rangeCheck_none s).1 hr).2

/-! ### Parts of the invariant -/

/-- The part of the invariant that does not speak of the phase. -/
structure Sound (s : State) : Prop where
  params : s.cfg.wellFormed = true
  memory : s.mem.wf = true
  space : s.mem.below (2 ^ s.cfg.addrWidth) = true
  report : s.err = false ↔ s.errCode = .noError
  detail : s.err = false → s.errInfo = 0
  validReserved : s.valid &&& 0xFFF80000 = 0
  svalidReserved : s.svalid &&& 0xFFFF0000 = 0

/-- The part of the invariant that holds of a running command in each of its phases (43_control.md R183, R184). -/
structure Running (s : State) : Prop where
  busy : s.busy = true
  done : s.done = false
  command : ∃ i, commandOf s.op s.var = some i ∧ s.ctrl = encode i ∧ Ready i s
  latched : s.op = 4 → Latched s

theorem Inv.sound (h : Inv s) : Sound s := { h with }

theorem Inv.runs (h : Inv s) (hp : s.phase ≠ .idle) : Running s where
  busy := h.busy.2 hp
  done := h.done (h.busy.2 hp)
  command := h.running hp
  latched := h.latched hp

theorem Inv.idle_of_not_busy (h : Inv s) (hb : s.busy = false) : s.phase = .idle := by
  by_contra hp
  simp [h.busy.2 hp] at hb

/-- In a state that meets the invariant the engine's step is one of the running command. -/
theorem Inv.op_eq (h : Inv s) {op : BitVec 4} (hp : s.phase ≠ .idle) (ho : Runs s op) : s.op = op :=
  ho.resolve_right (by simp [h.busy.2 hp])

/-- The cipher range of a running CRYPT lies in the data address space. -/
theorem Running.cipher_le (h : Running s) (ho : s.op = 4) : s.lCiph.toNat + s.lMlen.toNat ≤ 2 ^ s.cfg.addrWidth := by
  obtain ⟨i, hi, -, hr⟩ := h.command
  obtain ⟨v, rfl⟩ := Instr.eq_crypt_of_op ((commandOf_spec hi).1.trans ho)
  obtain ⟨hl, -, hc⟩ := h.latched ho
  rw [hl, hc]
  exact hr.cipher_le

theorem Sound.inv_of_idle (h : Sound s) (hp : s.phase = .idle) (hb : s.busy = false) : Inv s :=
  { h with
    busy := by simp [hp, hb]
    done := by simp [hb]
    running := absurd hp
    crypt := by simp [hp]
    latched := absurd hp
    started := by simp [hp]
    blockStart := by simp [hp]
    inBlock := by simp [hp]
    unseen := by simp [hp] }

theorem Sound.inv_of_start (h : Sound s) (hr : Running s) (hp : s.phase = .start) (h0 : s.op = 4 → s.progress = 0) :
    Inv s :=
  { h with
    busy := by simp [hp, hr.busy]
    done := fun _ => hr.done
    running := fun _ => hr.command
    crypt := by simp [hp]
    latched := fun _ => hr.latched
    started := fun _ => h0
    blockStart := by simp [hp]
    inBlock := by simp [hp]
    unseen := by simp [hp] }

theorem Sound.inv_of_gen (h : Sound s) (hr : Running s) (ho : s.op = 4) (hu : s.ciphRange ∈ s.unseen)
    (hp : s.phase = .gen) (hb : InBlock s) (h64 : s.progress.toNat % 64 = 0) : Inv s :=
  { h with
    busy := by simp [hp, hr.busy]
    done := fun _ => hr.done
    running := fun _ => hr.command
    crypt := fun _ => ho
    latched := fun _ => hr.latched
    started := by simp [hp]
    blockStart := fun _ => ⟨hb, h64⟩
    inBlock := by simp [hp]
    unseen := fun _ => hu }

theorem Sound.inv_of_xor (h : Sound s) (hr : Running s) (ho : s.op = 4) (hu : s.ciphRange ∈ s.unseen)
    (hp : s.phase = .xor) (hb : InBlock s) (hk : s.ks = salsaCore s.matrix)
    (hv : s.valid.getLsbD ksValidBit = true) : Inv s :=
  { h with
    busy := by simp [hp, hr.busy]
    done := fun _ => hr.done
    running := fun _ => hr.command
    crypt := fun _ => ho
    latched := fun _ => hr.latched
    started := by simp [hp]
    blockStart := by simp [hp]
    inBlock := fun _ => ⟨hb, hk, hv⟩
    unseen := fun _ => hu }

/-! ### Valid bits -/

theorem setBit_mono {w : Word} {k : Nat} (hk : k < 32) (j : Nat) (h : w.getLsbD j = true) :
    (setBit w k).getLsbD j = true := by
  simp [getLsbD_setBit w hk, h]

theorem getLsbD_setBit_self (w : Word) {k : Nat} (hk : k < 32) : (setBit w k).getLsbD k = true := by
  simp [getLsbD_setBit w hk]

theorem setBit_reserved {w mask : Word} {k : Nat} (hk : k < 32) (hm : mask.getLsbD k = false) (h : w &&& mask = 0) :
    setBit w k &&& mask = 0 := by
  rw [and_eq_zero_iff] at h ⊢
  intro j hj
  have hne : j ≠ k := by rintro rfl; simp [hm] at hj
  simp [getLsbD_setBit _ hk, h j hj, hne]

theorem OperandReg.validBit_lt (r : OperandReg) : r.validBit < 18 := by
  cases r with
  | key i => exact Nat.lt_trans i.isLt (by decide)
  | _ => decide

theorem valid_setBit_reserved {w : Word} {k : Nat} (hk : k < 19) (h : w &&& 0xFFF80000 = 0) :
    setBit w k &&& 0xFFF80000 = 0 :=
  setBit_reserved (by omega) ((by decide : ∀ k < 19, (0xFFF80000 : Word).getLsbD k = false) k hk) h

theorem svalid_setBit_reserved {w : Word} {k : Nat} (hk : k < 16) (h : w &&& 0xFFFF0000 = 0) :
    setBit w k &&& 0xFFFF0000 = 0 :=
  setBit_reserved (by omega) ((by decide : ∀ k < 16, (0xFFFF0000 : Word).getLsbD k = false) k hk) h

/-! ### What the shared operations keep -/

theorem Sound.setKs (h : Sound s) (b : Block) : Sound (s.setKs b) :=
  { h with validReserved := valid_setBit_reserved (by decide) h.validReserved }

theorem Sound.setMatrix (h : Sound s) (b : Block) : Sound (s.setMatrix b) :=
  { h with svalidReserved := (by decide : allStateValid &&& 0xFFFF0000 = 0) }

theorem Sound.finish (h : Sound s) : Sound s.finish := { h with }

/-- A command ends in an idle block (43_control.md R186). -/
theorem Sound.inv_finish (h : Sound s) : Inv s.finish := h.finish.inv_of_idle rfl rfl

theorem Sound.report_code (h : Sound s) {k : ErrCode} (d : Word) (hk : k ≠ .noError) : Sound (s.report k d) :=
  { h with report := by simp [hk], detail := by simp }

theorem Sound.clearReport (h : Sound s) : Sound s.clearReport :=
  { h with report := by simp, detail := by simp }

theorem Sound.writeOperand (h : Sound s) (r : OperandReg) (v : Word) : Sound (s.writeOperand r v) :=
  { h with validReserved := valid_setBit_reserved (Nat.lt_succ_of_lt r.validBit_lt) h.validReserved }

theorem Sound.writeStateWord (h : Sound s) (i : Fin 16) (v : Word) : Sound (s.writeStateWord i v) :=
  { h with svalidReserved := svalid_setBit_reserved i.isLt h.svalidReserved }

theorem Sound.writeMem (h : Sound s) {a : Nat} (v : Byte) (ha : a < 2 ^ s.cfg.addrWidth) :
    Sound { s with mem := s.mem.write a v } :=
  { h with memory := Memory.wf_write _ _ h.memory, space := Memory.below_write _ ha h.space }

/-- A CRYPT cut short loses cipher bytes inside its cipher range only. -/
theorem Sound.loseCipherFrom (h : Sound s) {i : Nat} (hi : i ≤ s.lMlen.toNat)
    (hc : s.lCiph.toNat + s.lMlen.toNat ≤ 2 ^ s.cfg.addrWidth) : Sound (s.loseCipherFrom i) :=
  { h with
    memory := Memory.wf_scramble _ _ _ h.memory
    space := Memory.below_scramble _ _ _ (by rw [State.loseCipherFrom_cfg]; omega) h.space }

theorem Sound.loseBlocks (h : Sound s) : Sound s.loseBlocks :=
  { h with
    validReserved := by
      have hv := (and_eq_zero_iff _ _).1 h.validReserved
      refine (and_eq_zero_iff _ _).2 fun k hk => ?_
      simp [hv k hk]
    svalidReserved := (by decide : (0 : Word) &&& 0xFFFF0000 = 0) }

theorem Sound.reportBus (h : Sound s) (d : Dir) (a : Nat) : Sound (s.reportBus d a) :=
  { h.report_code (match d with | .read => 0 | .write => 1) (by simp : ErrCode.bus ≠ .noError) with }

/-! ### The accept of a command (43_control.md R183, R184) -/

theorem Running.accept {i : Instr} (hw : i.wellFormed = true) (hr : Ready i s) :
    Running (latchOf i (s.accept (encode i))) := by
  have hc : commandOf (opField (encode i)) (varField (encode i)) = some i := by simp [commandOf_op_var hw]
  cases i with
  | crypt v =>
    exact ⟨rfl, rfl, ⟨_, hc, rfl, hr.mono rfl rfl (fun _ => id) id⟩, fun _ => ⟨rfl, rfl, rfl⟩⟩
  | _ =>
    refine ⟨rfl, rfl, ⟨_, hc, rfl, hr.mono rfl rfl (fun _ => id) id⟩, fun h => absurd h ?_⟩
    simp [latchOf, State.accept, Instr.op]

theorem Sound.inv_accept {i : Instr} (h : Sound s) (hw : i.wellFormed = true) (hr : Ready i s) :
    Inv (latchOf i (s.accept (encode i))) := by
  have ha : Sound (s.accept (encode i)) := { h.clearReport with }
  have hrun := Running.accept hw hr
  cases i with
  | crypt v => exact Sound.inv_of_start { ha with } hrun rfl fun _ => rfl
  | _ => exact Sound.inv_of_start ha hrun rfl fun h => absurd h (by simp [latchOf, State.accept, Instr.op])

/-! ### The engine steps of CRYPT (42_streamer.md) -/

/-- Moving on to the next block's counter rebuilds S (40_state_builder.md R106). -/
theorem setctr_build (l : KeyLayout) (key : Vector Word 8) (nonce c d : DWord) :
    setctr (build l key nonce c) d = build l key nonce d := rfl

/-- A step inside a CRYPT keeps the running command when it clears no valid bit. -/
theorem Running.of_cryptStep (h : Running s) {valid svalid : Word} {progress ctr : DWord} {matrix ks : Block}
    {p : Phase} {mem : Memory} {unseen : List Span} (hv : ∀ k, s.valid.getLsbD k = true → valid.getLsbD k = true)
    (hs : s.svalid = allStateValid → svalid = allStateValid) :
    Running { s with
      valid := valid, svalid := svalid, progress := progress, ctr := ctr, matrix := matrix, ks := ks, phase := p,
      mem := mem, unseen := unseen } where
  busy := h.busy
  done := h.done
  command :=
    have ⟨i, hi, hw, hr⟩ := h.command
    ⟨i, hi, hw, hr.mono rfl rfl hv hs⟩
  latched := fun ho => { h.latched ho with }

theorem Inv.setupStep (h : Inv s) (hp : s.phase = .start) (ho : s.op = 4) : Inv s.setupStep := by
  have hs : Sound { s.setMatrix (build s.cfg.keyLayout s.operands.key s.operands.nonce 0) with ctr := 0 } :=
    { h.sound.setMatrix (build s.cfg.keyLayout s.operands.key s.operands.nonce 0) with }
  have hprog : s.progress = 0 := h.started hp ho
  unfold State.setupStep
  split
  · exact hs.inv_finish
  · next hlen =>
    have hpos : 0 < s.lMlen.toNat := by
      rw [Nat.pos_iff_ne_zero]
      exact fun h0 => hlen (BitVec.eq_of_toNat_eq h0)
    have hr := h.runs (by simp [hp])
    refine Sound.inv_of_gen { hs with } (hr.of_cryptStep (fun _ => id) fun _ => rfl) ho List.mem_cons_self rfl ?_ ?_
    · exact ⟨by simpa [hprog] using hpos, by simp [hprog], rfl, rfl⟩
    · simp [hprog]

theorem Inv.genStep (h : Inv s) (hp : s.phase = .gen) : Inv s.genStep := by
  obtain ⟨hb, -⟩ := h.blockStart hp
  have hr := h.runs (by simp [hp])
  exact Sound.inv_of_xor { h.sound.setKs (salsaCore s.matrix) with }
    (hr.of_cryptStep (setBit_mono (by decide)) id) (h.crypt (.inl hp)) (h.unseen (.inl hp)) rfl { hb with } rfl
    (getLsbD_setBit_self _ (by decide))

/-- The block after the byte at the offset `progress` is ciphered, before the byte step picks the next phase. -/
def State.storeByte (s : State) (rd wr : Nat) : State :=
  { s with
    mem := s.mem.write wr (s.mem.byteAt rd ^^^ ksbyte s.cfg.ksByteOrder s.ks (s.progress.toNat % 64))
    progress := s.progress + 1 }

/-- The byte step ciphers a byte, and ends the block or stays in it (42_streamer.md R157, R158). -/
theorem State.cipherByte_eq (s : State) (rd wr : Nat) :
    s.cipherByte rd wr =
      if (s.progress.toNat + 1) % 64 = 0 ∨ s.progress + 1 = s.lMlen then (s.storeByte rd wr).endBlock
      else { s.storeByte rd wr with phase := .xor } := rfl

theorem Inv.cipherByte (h : Inv s) {rd wr : Nat} (hp : s.phase = .xor) (hwr : wr < 2 ^ s.cfg.addrWidth) :
    Inv (s.cipherByte rd wr) := by
  obtain ⟨⟨hmore, hctr, hmat, hsv⟩, hk, hkv⟩ := h.inBlock hp
  have hr := h.runs (by simp [hp])
  have ho := h.crypt (.inr hp)
  have hu := h.unseen (.inr hp)
  have hs : Sound (s.storeByte rd wr) := { h.sound.writeMem _ hwr with }
  have hsucc : (s.progress + 1).toNat = s.progress.toNat + 1 := BitVec.toNat_add_of_lt (by simp; omega)
  have hlt (hne : s.progress + 1 ≠ s.lMlen) : s.progress.toNat + 1 < s.lMlen.toNat := by
    rw [← BitVec.toNat_ne_iff_ne] at hne
    omega
  rw [State.cipherByte_eq, State.endBlock]
  split
  · next hend =>
    split
    · exact Sound.inv_finish { hs with }
    · next hne =>
      have h64 : (s.progress.toNat + 1) % 64 = 0 := hend.resolve_right hne
      have hc : (s.ctr + 1).toNat = s.ctr.toNat + 1 := BitVec.toNat_add_of_lt (by simp; omega)
      refine Sound.inv_of_gen { hs with } (hr.of_cryptStep (fun _ => id) id) ho hu rfl ⟨?_, ?_, ?_, hsv⟩ ?_
      · exact hsucc ▸ hlt hne
      · show (s.ctr + 1).toNat = (s.progress + 1).toNat / 64
        omega
      · show setctr s.matrix (s.ctr + 1) = _
        rw [hmat, setctr_build]
        rfl
      · show (s.progress + 1).toNat % 64 = 0
        omega
  · next hin =>
    rw [not_or] at hin
    refine Sound.inv_of_xor { hs with } (hr.of_cryptStep (fun _ => id) id) ho hu rfl ⟨?_, ?_, hmat, hsv⟩ hk hkv
    · exact hsucc ▸ hlt hin.2
    · show s.ctr.toNat = (s.progress + 1).toNat / 64
      omega

theorem Inv.busAbort (h : Inv s) (hp : s.phase = .xor) (d : Dir) (a : Nat) : Inv (s.busAbort d a) := by
  have hc := (h.runs (by simp [hp])).cipher_le (h.crypt (.inr hp))
  have hmore := (h.inBlock hp).1.more
  exact ((h.sound.loseCipherFrom hmore.le hc).loseBlocks.reportBus d a).inv_finish

/-! ### Acts of the host and of the platform -/

/-- `t` differs from `s` at most in memory, the report and the model's own records. -/
def SameCommand (s t : State) : Prop :=
  t = { s with
    mem := t.mem, response := t.response, draws := t.draws, err := t.err, errCode := t.errCode, errInfo := t.errInfo }

theorem Inv.of_sameCommand (h : Inv s) {l : List Event} (hst : SameCommand { s with inbox := l } t) (ht : Sound t) :
    Inv t := by
  rw [hst] at ht ⊢
  exact
    { ht, h with
      running := fun hp =>
        have ⟨i, hi, hw, hr⟩ := h.running hp
        ⟨i, hi, hw, hr.mono rfl rfl (fun _ => id) id⟩
      latched := fun hp ho => { h.latched hp ho with }
      blockStart := fun hp => have ⟨hb, h64⟩ := h.blockStart hp; ⟨{ hb with }, h64⟩
      inBlock := fun hp => have ⟨hb, hk⟩ := h.inBlock hp; ⟨{ hb with }, hk⟩ }

/-- Taking an event out of the inbox keeps the invariant. -/
theorem Inv.setInbox (h : Inv s) (l : List Event) : Inv { s with inbox := l } :=
  h.of_sameCommand (l := l) rfl { h.sound with }

/-- The reset input, in every phase (70_reset_and_hazards.md R230 to R232). -/
theorem Inv.applyReset (h : Inv s) : Inv s.applyReset := by
  have hs : Sound (if s.cryptBusy then s.loseCipherFrom 0 else s) := by
    split
    · next hb =>
      simp only [State.cryptBusy, Bool.and_eq_true, decide_eq_true_eq] at hb
      exact h.sound.loseCipherFrom (Nat.zero_le _) ((h.runs (h.busy.1 hb.1)).cipher_le hb.2)
    · exact h.sound
  refine Sound.inv_of_idle ⟨hs.params, hs.memory, hs.space, ?_, ?_, ?_, ?_⟩ rfl rfl <;>
    simp [State.applyReset, State.reset]

/-! ### One step -/

theorem Inv.move {e : Option Event} (h : Inv s) (m : Move e s t) : Inv t := by
  have hs := h.sound
  cases m with
  | stay => exact h
  | reject k d hk => exact h.of_sameCommand rfl (hs.report_code d hk)
  | accept i hp hi hr =>
    obtain ⟨w, hi⟩ := hi
    exact hs.inv_accept (wellFormed_of_decode hi) hr
  | nop => exact hs.inv_finish
  | build => exact (hs.setMatrix _).inv_finish
  | setCounter =>
    exact Sound.inv_finish { hs with
      svalidReserved := svalid_setBit_reserved (by decide) (svalid_setBit_reserved (by decide) hs.svalidReserved) }
  | transform => exact (hs.setKs _).inv_finish
  | setup hp ho => exact h.setupStep hp (h.op_eq (by simp [hp]) ho)
  | gen hp => exact h.genStep hp
  | abort d a hp => exact h.busAbort hp d a
  | byte hp _ hw => exact h.cipherByte hp hw
  | operand r v hb => exact (hs.writeOperand r v).inv_of_idle (h.idle_of_not_busy hb) hb
  | stateWord i v hb => exact (hs.writeStateWord i v).inv_of_idle (h.idle_of_not_busy hb) hb
  | sync hb => exact Sound.inv_of_idle { hs with } (h.idle_of_not_busy hb) hb
  | answer | answerFree | answerByte | answerFreeByte => exact h.of_sameCommand rfl { hs with }
  | writeByte a v _ ha => exact h.of_sameCommand rfl (hs.writeMem v ha)
  | reset => exact h.applyReset

/-- Settles O55: every next state of a step is one of the moves, and each move keeps the invariant. -/
theorem stepKeepsTheInvariant : Obligations.StepKeepsTheInvariant :=
  fun _ _ h hst => (h.setInbox _).move (step_move hst)

/-! ### The fields that a move leaves or sets -/

theorem nextIsReset_iff : NextIsReset s ↔ s.inbox.head? = some .reset :=
  ⟨fun ⟨_, h⟩ => by rw [h]; rfl, fun h => ⟨_, (List.cons_head?_tail h).symm⟩⟩

/-- The byte step leaves every register but PROGRESS, S and the bits of STATUS (42_streamer.md R157, R158). -/
theorem State.cipherByte_frame (s : State) (rd wr : Nat) :
    s.cipherByte rd wr = { s with
      mem := (s.cipherByte rd wr).mem, progress := (s.cipherByte rd wr).progress, ctr := (s.cipherByte rd wr).ctr,
      matrix := (s.cipherByte rd wr).matrix, phase := (s.cipherByte rd wr).phase, busy := (s.cipherByte rd wr).busy,
      done := (s.cipherByte rd wr).done } := by
  rw [State.cipherByte_eq, State.endBlock]
  split
  · split <;> rfl
  · rfl

/-- The setup step leaves the operands, VALID and KS (42_streamer.md R152). -/
theorem State.setupStep_frame (s : State) :
    s.setupStep = { s with
      matrix := s.setupStep.matrix, svalid := allStateValid, ctr := s.setupStep.ctr, unseen := s.setupStep.unseen,
      phase := s.setupStep.phase, busy := s.setupStep.busy, done := s.setupStep.done } := by
  unfold State.setupStep
  split <;> rfl

theorem State.applyReset_cfg (s : State) : s.applyReset.cfg = s.cfg := by
  unfold State.applyReset
  cases s.cryptBusy <;> rfl

/-- The accept of a command leaves the parameters, the operands, the valid bits and KS. -/
theorem latchOf_accept_frame (i : Instr) (s : State) (w : Word) :
    latchOf i (s.accept w) = { s.accept w with
      lMlen := (latchOf i (s.accept w)).lMlen, lMsg := (latchOf i (s.accept w)).lMsg,
      lCiph := (latchOf i (s.accept w)).lCiph, progress := (latchOf i (s.accept w)).progress } := by
  cases i <;> rfl

theorem Move.cfg_eq {e : Option Event} (m : Move e s t) : t.cfg = s.cfg := by
  cases m with
  | accept => rw [latchOf_accept_frame]; rfl
  | setup => rw [State.setupStep_frame]
  | byte => rw [State.cipherByte_frame]
  | reset => exact s.applyReset_cfg
  | _ => rfl

theorem Move.operands_eq {e : Option Event} (m : Move e s t) (he : e ≠ some .reset) (hb : s.busy = true) :
    t.operands = s.operands := by
  cases m with
  | accept => rw [latchOf_accept_frame]; rfl
  | setup => rw [State.setupStep_frame]
  | byte => rw [State.cipherByte_frame]
  | operand _ _ h => exact absurd (hb.symm.trans h) (by simp)
  | reset h => exact absurd h he
  | _ => rfl

/-- Settles O56: no move changes the parameters, and only an operand write, which a BUSY block rejects, or a reset
changes the operands. -/
theorem operandsAndParametersStay : Obligations.OperandsAndParametersStay :=
  fun _ _ hst =>
    have m := step_move hst
    ⟨m.cfg_eq, fun hb hr => m.operands_eq (mt nextIsReset_iff.2 hr) hb⟩

/-! ### Valid bits over a step (10_state.md R36, R37) -/

/-- No valid bit of `s` is cleared in `t`. -/
structure KeepsValid (s t : State) : Prop where
  valid : ∀ k, s.valid.getLsbD k = true → t.valid.getLsbD k = true
  svalid : ∀ k < 16, s.svalid.getLsbD k = true → t.svalid.getLsbD k = true

theorem KeepsValid.of_eq (hv : t.valid = s.valid) (hs : t.svalid = s.svalid) : KeepsValid s t :=
  ⟨fun _ => hv ▸ id, fun _ _ => hs ▸ id⟩

theorem getLsbD_allStateValid : ∀ k < 16, allStateValid.getLsbD k = true := by decide

theorem Move.keepsValid_or_abort {e : Option Event} (m : Move e s t) (he : e ≠ some .reset) :
    KeepsValid s t ∨ s.phase = .xor ∧ ∃ d a, t = s.busAbort d a := by
  cases m with
  | abort d a hp => exact .inr ⟨hp, d, a, rfl⟩
  | reset h => exact absurd h he
  | accept =>
    rw [latchOf_accept_frame]
    exact .inl (.of_eq rfl rfl)
  | byte =>
    rw [State.cipherByte_frame]
    exact .inl (.of_eq rfl rfl)
  | build => exact .inl ⟨fun _ => id, fun k hk _ => getLsbD_allStateValid k hk⟩
  | setup =>
    rw [s.setupStep_frame]
    exact .inl ⟨fun _ => id, fun k hk _ => getLsbD_allStateValid k hk⟩
  | setCounter =>
    exact .inl ⟨fun _ => id, fun k _ hk => setBit_mono (by decide) k (setBit_mono (by decide) k hk)⟩
  | transform | gen => exact .inl ⟨setBit_mono (by decide), fun _ _ => id⟩
  | operand r => exact .inl ⟨setBit_mono (Nat.lt_trans r.validBit_lt (by decide)), fun _ _ => id⟩
  | stateWord i => exact .inl ⟨fun _ => id, fun k _ => setBit_mono (Nat.lt_trans i.isLt (by decide)) k⟩
  | _ => exact .inl (.of_eq rfl rfl)

/-- The abort clears KS_V and no other bit of VALID (42_streamer.md R168). -/
theorem State.getLsbD_busAbort_valid (s : State) (d : Dir) (a k : Nat) :
    (s.busAbort d a).valid.getLsbD k = (s.valid.getLsbD k && decide (k ≠ 18)) := by
  show (s.valid &&& ~~~(BitVec.twoPow 32 18)).getLsbD k = _
  by_cases hk : k < 32
  · simp [hk]
  · simp [BitVec.getLsbD_of_ge s.valid k (by omega)]

theorem State.busAbort_ksValid (s : State) (d : Dir) (a : Nat) : (s.busAbort d a).valid.getLsbD 18 = false := by
  rw [State.getLsbD_busAbort_valid]
  simp

/-- Settles O58: every move but a reset and the bus-fault abort only adds valid bits, and the abort clears KS_V and
SVALID. -/
theorem validBitsClearedOnlyByResetOrAbort : Obligations.ValidBitsClearedOnlyByResetOrAbort := by
  intro s t k hst hr
  rcases (step_move hst).keepsValid_or_abort (mt nextIsReset_iff.2 hr) with h | ⟨hp, d, a, rfl⟩
  · exact ⟨fun _ => h.valid k, fun hv => .inl (h.valid 18 hv), fun hk hv => .inl (h.svalid k hk hv)⟩
  · refine ⟨fun hk hv => ?_, fun _ => .inr ⟨hp, rfl, State.busAbort_ksValid .., rfl⟩,
      fun _ _ => .inr ⟨hp, rfl, rfl, rfl⟩⟩
    rw [State.getLsbD_busAbort_valid]
    simpa [Nat.ne_of_lt hk] using hv

/-! ### What writes KS (10_state.md R31) -/

theorem Inv.move_ks {e : Option Event} (h : Inv s) (m : Move e s t) (he : e ≠ some .reset) (hk : t.ks ≠ s.ks) :
    (s.phase = .start ∧ s.op = 3 ∧ t.ks = salsaCore s.matrix ∧ t.valid.getLsbD 18 = true) ∨
    (s.phase = .gen ∧ s.op = 4 ∧ t.ks = salsaCore s.matrix ∧ t.valid.getLsbD 18 = true) ∨
    (s.phase = .xor ∧ t.errCode = .bus ∧ t.valid.getLsbD 18 = false) := by
  cases m with
  | transform hp ho => exact .inl ⟨hp, h.op_eq (by simp [hp]) ho, rfl, getLsbD_setBit_self _ (by decide)⟩
  | gen hp => exact .inr (.inl ⟨hp, h.crypt (.inl hp), rfl, getLsbD_setBit_self _ (by decide)⟩)
  | abort d a hp => exact .inr (.inr ⟨hp, rfl, s.busAbort_ksValid d a⟩)
  | reset hr => exact absurd hr he
  | accept => exact absurd (by rw [latchOf_accept_frame]; rfl) hk
  | setup => exact absurd (by rw [State.setupStep_frame]) hk
  | byte => exact absurd (by rw [State.cipherByte_frame]) hk
  | _ => exact absurd rfl hk

/-- Settles O60: of the moves, only the steps of TRANSFORM and of a block generation and the abort write KS. -/
theorem keystreamWrittenOnlyByTransformAndCrypt : Obligations.KeystreamWrittenOnlyByTransformAndCrypt :=
  fun s _ h hst hr => (h.setInbox s.inbox.tail).move_ks (step_move hst) (mt nextIsReset_iff.2 hr)

/-! ### The host while a command runs (10_state.md R46; 20_memory.md R74; 43_control.md R195) -/

/-- A host read of a BUSY block changes the model's record of the read alone. -/
theorem hostRead_of_busy (off : Nat) (hb : s.busy = true) :
    SameCommand s (hostRead off s) ∧ (hostRead off s).mem = s.mem := by
  have answer (v : Word) : SameCommand s (s.answer v) ∧ (s.answer v).mem = s.mem := ⟨rfl, rfl⟩
  have free : SameCommand s s.answerFree ∧ s.answerFree.mem = s.mem := ⟨rfl, rfl⟩
  unfold hostRead
  split
  case h_2 => rw [if_pos hb]; exact answer _
  case h_11 | h_12 | h_13 =>
    split
    · exact answer _
    · exact free
  all_goals exact answer _

/-- A BUSY block rejects every host write (43_control.md R195). -/
theorem hostWrite_of_busy (off : Nat) (v : Word) (hb : s.busy = true) :
    hostWrite off v s = .next (s.report .busy (BitVec.ofNat 32 off)) := by
  rw [hostWrite, if_pos hb]

theorem State.races_iff (s : State) (a : Nat) : s.races a = true ↔ (s.busy = true ∧ s.op = 4) ∧
    (s.lMsg.toNat ≤ a ∧ a < s.lMsg.toNat + s.lMlen.toNat ∨ s.lCiph.toNat ≤ a ∧ a < s.lCiph.toNat + s.lMlen.toNat) := by
  simp [State.races, State.cryptBusy, Span.has_iff, State.msgRange, State.ciphRange, messageRange, cipherRange]

/-- A host act on a BUSY block changes memory only at a byte that does not race with a CRYPT. -/
theorem handle_of_busy {e : Event} (hb : s.busy = true) (he : e ≠ .engine) (hr : e ≠ .reset)
    (h : handle e s = .next t) :
    SameCommand s t ∧ ∀ a, s.races a = true → t.mem.byteAt a = s.mem.byteAt a := by
  cases e with
  | engine => exact absurd rfl he
  | reset => exact absurd rfl hr
  | busRead addr size =>
    simp only [handle, busRead] at h
    split at h
    · cases h
    · cases h
      obtain ⟨hs, hm⟩ := hostRead_of_busy _ hb
      exact ⟨hs, fun _ _ => by rw [hm]⟩
  | busWrite addr size v =>
    simp only [handle, busWrite] at h
    split at h
    · cases h
    · rw [hostWrite_of_busy _ _ hb] at h
      cases h
      exact ⟨rfl, fun _ _ => rfl⟩
  | memRead a =>
    simp only [handle, dataRead] at h
    split at h
    · cases h
    · cases h
      split <;> exact ⟨rfl, fun _ _ => rfl⟩
  | memWrite a v =>
    simp only [handle, dataWrite] at h
    split at h
    · cases h
    · next hf =>
      cases h
      obtain ⟨-, -, hrace⟩ := hostAccessFault_none hf
      refine ⟨rfl, fun b hb => Memory.byteAt_write_other _ _ ?_⟩
      rintro rfl
      simp [hrace] at hb

/-- Settles O57: a host act on a BUSY block is a read, a rejected write or an access outside the ranges. -/
theorem hostActsLeaveTheCommandAlone : Obligations.HostActsLeaveTheCommandAlone := by
  intro s t e rest hin he hr hb hst
  have hh : handle e { s with inbox := rest } = .next t := by simpa only [step, takeTurn, hin] using hst
  obtain ⟨hsame, hmem⟩ := handle_of_busy (s := { s with inbox := rest }) hb he hr hh
  exact ⟨hsame, fun ho a ha => hmem a ((State.races_iff _ a).2 ⟨⟨hb, ho⟩, ha⟩)⟩

/-! ### Reads of registers (10_state.md R22, R45, R46) -/

theorem windowOffset_add (p : Params) {off : Nat} (h : off < 0x1000) (h4 : off % 4 = 0) :
    windowOffset p (p.regBase + off) 4 = some off := by
  rw [windowOffset, Nat.add_sub_cancel_left, if_pos ⟨rfl, Nat.le_add_right _ _, h, h4⟩]

/-- The next step is a host read (43_control.md R190, R191). -/
theorem step_of_nextRead {off : Nat} {rest : List Event} (h : NextRead s off rest) :
    step s = .next (hostRead off { s with inbox := rest }) := by
  obtain ⟨hlt, h4, hin⟩ := h
  simp only [step, takeTurn, hin, handle, busRead, windowOffset_add _ hlt h4]

theorem regOf_operandOffset (r : OperandReg) : regOf (operandOffset r) = .operand r := by
  cases r with
  | key i => exact (by decide : ∀ i : Fin 8, regOf (0x040 + 4 * i.val) = .operand (.key i)) i
  | _ => rfl

theorem regOf_state : ∀ i : Fin 16, regOf (0x0C0 + 4 * i.val) = .state i := by decide

theorem regOf_ks : ∀ i : Fin 16, regOf (0x100 + 4 * i.val) = .ks i := by decide

/-- The valid bit of an operand register is the number of its slot in the window (10_state.md R22, R36). -/
theorem operandOffset_slot (r : OperandReg) : (operandOffset r - 0x040) / 4 = r.validBit := by
  cases r with
  | key i => simp [operandOffset, OperandReg.validBit]
  | _ => rfl

theorem hostRead_operand_unset {r : OperandReg} (h : s.valid.getLsbD r.validBit = false) :
    hostRead (operandOffset r) s = s.answerFree := by
  simp only [hostRead, regOf_operandOffset, h, Bool.false_eq_true, if_false]

theorem hostRead_state_unset {i : Fin 16} (h : s.busy = true ∨ s.svalid.getLsbD i.val = false) :
    hostRead (0x0C0 + 4 * i.val) s = s.answerFree := by
  have hc : (!s.busy && s.svalid.getLsbD i.val) = false := by rcases h with h | h <;> simp [h]
  simp only [hostRead, regOf_state, hc, Bool.false_eq_true, if_false]

theorem hostRead_ks_unset {i : Fin 16} (h : s.busy = true ∨ s.valid.getLsbD ksValidBit = false) :
    hostRead (0x100 + 4 * i.val) s = s.answerFree := by
  have hc : (!s.busy && s.valid.getLsbD ksValidBit) = false := by rcases h with h | h <;> simp only [h] <;> simp
  simp only [hostRead, regOf_ks, hc, Bool.false_eq_true, if_false]

/-! ### Reads of memory (20_memory.md R60, R72 to R74) -/

/-- Nothing stops a host access to ordinary memory that does not race. -/
theorem hostAccessFault_eq_none {a : Nat} (ha : a < 2 ^ s.cfg.addrWidth) (ho : ordinary s.cfg a = true)
    (hr : s.races a = false) : hostAccessFault s a = none := by
  simp [hostAccessFault, inSpace, ha, ho, hr]

theorem State.isUnseen_of_mem {r : Span} {a : Nat} (hr : r ∈ s.unseen) (hlo : r.base ≤ a)
    (hhi : a < r.base + r.size) : s.isUnseen a = true :=
  List.any_eq_true.2 ⟨r, hr, (Span.has_iff r a).2 ⟨hlo, hhi⟩⟩

/-- Settles O16: such a register read is `answerFree`, and such a byte is unseen. -/
theorem unspecifiedReadReturnsAFreeValue : Obligations.UnspecifiedReadReturnsAFreeValue := by
  refine ⟨fun s off rest hread hfree => ?_, fun s a r rest hin ha hord hrace hr hlo hhi => ?_⟩
  · rw [step_of_nextRead hread]
    rcases hfree with ⟨r, rfl, hv⟩ | ⟨i, rfl, hv⟩ | ⟨i, rfl, hv⟩
    · rw [operandOffset_slot] at hv
      exact congrArg _ (hostRead_operand_unset hv)
    · exact congrArg _ (hostRead_state_unset hv)
    · exact congrArg _ (hostRead_ks_unset hv)
  · have hf : hostAccessFault { s with inbox := rest } a = none := hostAccessFault_eq_none ha hord hrace
    have hu : State.isUnseen { s with inbox := rest } a = true := State.isUnseen_of_mem hr hlo hhi
    simp only [step, takeTurn, hin, handle, dataRead, hf, hu, if_true]
    rfl

/-! ### The fields of STATUS and CAPS (10_state.md R33, R35) -/

/-- STATUS as the row of its fields. -/
theorem State.extractLsb'_statusWord (s : State) (b n : Nat) : s.statusWord.extractLsb' b n =
    BitVec.extractLsb' (n := 20 + 4 + 5 + 1 + 1 + 1) b n (0#20 ++ s.errCode.code ++ 0#5 ++ BitVec.ofBool s.err ++
      BitVec.ofBool s.done ++ BitVec.ofBool s.busy) := rfl

/-- CAPS as the row of its fields. -/
theorem extractLsb'_capsWord (p : Params) (b n : Nat) : (capsWord p).extractLsb' b n =
    BitVec.extractLsb' (n := 13 + 7 + 1 + 1 + 2 + 8) b n (0#13 ++ BitVec.ofNat 7 p.addrWidth ++ 0#1 ++
      byteOrderCode p.ksByteOrder ++ layoutCode p.keyLayout ++ BitVec.ofNat 8 nVariants) := rfl

theorem State.statusWord_fields (s : State) :
    s.statusWord.extractLsb' 0 1 = BitVec.ofBool s.busy ∧ s.statusWord.extractLsb' 1 1 = BitVec.ofBool s.done ∧
    s.statusWord.extractLsb' 2 1 = BitVec.ofBool s.err ∧ s.statusWord.extractLsb' 3 5 = 0#5 ∧
    s.statusWord.extractLsb' 8 4 = s.errCode.code ∧ s.statusWord.extractLsb' 12 20 = 0#20 := by
  simp (disch := omega) only [State.extractLsb'_statusWord, BitVec.extractLsb'_append_eq_of_le, Nat.reduceSub,
    BitVec.extractLsb'_append_eq_right, BitVec.extractLsb'_eq_self, and_self]

theorem capsWord_fields (p : Params) :
    (capsWord p).extractLsb' 0 8 = BitVec.ofNat 8 nVariants ∧ (capsWord p).extractLsb' 8 2 = layoutCode p.keyLayout ∧
    (capsWord p).extractLsb' 10 1 = byteOrderCode p.ksByteOrder ∧ (capsWord p).extractLsb' 11 1 = 0#1 ∧
    (capsWord p).extractLsb' 12 7 = BitVec.ofNat 7 p.addrWidth ∧ (capsWord p).extractLsb' 19 13 = 0#13 := by
  simp (disch := omega) only [extractLsb'_capsWord, BitVec.extractLsb'_append_eq_of_le, Nat.reduceSub,
    BitVec.extractLsb'_append_eq_right, BitVec.extractLsb'_eq_self, and_self]

/-- A field of one bit is that bit of the word. -/
theorem getLsbD_eq_of_extractLsb' {w : Word} {k : Nat} {b : Bool} (h : w.extractLsb' k 1 = BitVec.ofBool b) :
    w.getLsbD k = b := by
  simpa using congrArg (BitVec.getLsbD · 0) h

theorem byteOrderCode_eq (o : KsByteOrder) : byteOrderCode o = BitVec.ofBool (decide (o = .big)) := by
  cases o <;> rfl

/-- Settles O17: each field of the two words, with the codes of the parameters and of the error by cases. -/
theorem statusAndCapsFieldsAsRead : Obligations.StatusAndCapsFieldsAsRead := by
  refine ⟨fun s => ?_, fun p hp => ?_, by decide⟩
  · obtain ⟨hbusy, hdone, herr, hres, hcode, htop⟩ := s.statusWord_fields
    refine ⟨getLsbD_eq_of_extractLsb' hbusy, getLsbD_eq_of_extractLsb' hdone, getLsbD_eq_of_extractLsb' herr, hres,
      ?_, htop⟩
    rw [hcode]
    cases s.errCode <;> rfl
  · obtain ⟨hvar, hlayout, horder, hres, hwidth, htop⟩ := capsWord_fields p
    refine ⟨hvar, ?_, getLsbD_eq_of_extractLsb' (horder.trans (byteOrderCode_eq _)),
      getLsbD_eq_of_extractLsb' hres, ?_, htop⟩
    · rw [hlayout]
      cases p.keyLayout <;> rfl
    · have hw : p.addrWidth ≤ 64 := by
        simp only [Params.wellFormed, Bool.and_eq_true, decide_eq_true_eq] at hp
        obtain ⟨⟨-, hw⟩, -⟩ := hp
        exact hw
      rw [hwidth, BitVec.toNat_ofNat]
      exact Nat.mod_eq_of_lt (by omega)

end StateProofs

end Sys2Proof.Machine

/-! PROOF. The statements about memory (20_memory.md): the keystream bytes of a word, the host's accesses to the data
address space, and what can change it. -/

namespace Sys2Proof.Machine

section MemoryProofs

variable {s t : State}

/-! ### The bytes of a keystream word (20_memory.md R67) -/

/-- Byte 4·w + k of a block is byte k of its word w. -/
theorem keystreamByte_position (w : Fin 16) {k : Nat} (hk : k < 4) :
    Fin.ofNat 16 ((4 * w.val + k) / 4) = w ∧ (4 * w.val + k) % 4 = k :=
  ⟨Fin.ext (by rw [Fin.val_ofNat]; omega), by omega⟩

theorem ksbyte_little (ks : Block) (w : Fin 16) {k : Nat} (hk : k < 4) :
    ksbyte .little ks (4 * w.val + k) = ks[w].extractLsb' (8 * k) 8 := by
  obtain ⟨hw, hr⟩ := keystreamByte_position w hk
  simp only [ksbyte, hw, hr]

/-- The BIG order is the LITTLE order of the word from its other end. -/
theorem ksbyte_big (ks : Block) (w : Fin 16) {k : Nat} (hk : k < 4) :
    ksbyte .big ks (4 * w.val + k) = ksbyte .little ks (4 * w.val + (3 - k)) := by
  obtain ⟨hw, hr⟩ := keystreamByte_position w hk
  rw [ksbyte_little ks w (by omega)]
  simp only [ksbyte, hw, hr]

theorem word_eq_append_bytes (x : Word) :
    x.extractLsb' 24 8 ++ x.extractLsb' 16 8 ++ x.extractLsb' 8 8 ++ x.extractLsb' 0 8 = x := by
  simp (disch := decide) only [BitVec.extractLsb'_append_extractLsb'_eq_extractLsb', BitVec.extractLsb'_eq_self]

/-- Settles O37: byte k of the word is its bits from 8·k on under LITTLE, and BIG counts the bytes from the other
end. -/
theorem keystreamBytesMakeUpTheWord : Obligations.KeystreamBytesMakeUpTheWord := by
  intro ks w
  have little : ksbyte .little ks (4 * w.val + 3) ++ ksbyte .little ks (4 * w.val + 2) ++
      ksbyte .little ks (4 * w.val + 1) ++ ksbyte .little ks (4 * w.val + 0) = ks[w] := by
    rw [ksbyte_little ks w (by decide : 3 < 4), ksbyte_little ks w (by decide : 2 < 4),
      ksbyte_little ks w (by decide : 1 < 4), ksbyte_little ks w (by decide : 0 < 4)]
    exact word_eq_append_bytes _
  refine ⟨little, ?_⟩
  rw [ksbyte_big ks w (by decide : 3 < 4), ksbyte_big ks w (by decide : 2 < 4),
    ksbyte_big ks w (by decide : 1 < 4), ← Nat.add_zero (4 * w.val), ksbyte_big ks w (by decide : 0 < 4)]
  exact little

/-! ### CRYPT over memory that is not ordinary (20_memory.md R72) -/

/-- A range that holds a byte with side effects is not ordinary memory. -/
theorem rangeOrdinary_eq_false {p : Params} {r q : Span} {a : Nat} (hr : r ∈ p.sideEffects) (ha : r.has a = true)
    (hq : q.has a = true) : rangeOrdinary p q = false := by
  have hmeets : p.sideEffects.any (Span.meets · q) = true :=
    List.any_eq_true.2 ⟨r, hr, (Span.meets_iff r q).2 ⟨a, ha, hq⟩⟩
  rw [rangeOrdinary, hmeets, Bool.not_true]

theorem execCrypt_of_not_ordinary (v : Nat) (hp : s.phase ≠ .idle) (hb : s.buffersOrdinary = false) :
    execCrypt v s = .fault .notOrdinaryMemory := by
  have stop (o : Host.Outcome State Fault Refusal) : s.whenOrdinary o = .fault .notOrdinaryMemory := by
    rw [State.whenOrdinary, hb, if_neg Bool.false_ne_true]
  unfold execCrypt
  split
  case h_1 hq => exact absurd hq hp
  all_goals exact stop _

/-- Settles O42: the range that meets the memory with side effects is not ordinary, and then no engine step of CRYPT
is taken. -/
theorem cryptOverDeviceMemoryStops : Obligations.CryptOverDeviceMemoryStops := by
  intro s v r a hp hr ha hrange
  refine execCrypt_of_not_ordinary v hp ?_
  rw [State.buffersOrdinary, Bool.and_eq_false_iff]
  exact hrange.imp (rangeOrdinary_eq_false hr ha) (rangeOrdinary_eq_false hr ha)

/-! ### Host accesses to the data address space (20_memory.md R63, R73, R74) -/

/-- The next step is the oldest event of the inbox (43_control.md R188). -/
theorem step_of_inbox {e : Event} {rest : List Event} (h : s.inbox = e :: rest) :
    step s = handle e { s with inbox := rest } := by
  simp only [step, takeTurn, h]

theorem State.isUnseen_eq_false {a : Nat} (h : ∀ r ∈ s.unseen, a < r.base ∨ r.base + r.size ≤ a) :
    s.isUnseen a = false := by
  refine List.any_eq_false.2 fun r hr => ?_
  rw [Span.has_iff]
  have := h r hr
  omega

/-- A host read that nothing stops, of a byte that the host sees, answers the byte. -/
theorem dataRead_of_seen {a : Nat} (hf : hostAccessFault s a = none) (hu : s.isUnseen a = false) :
    dataRead a s = .next (s.answerByte (s.mem.byteAt a)) := by
  simp only [dataRead, hf, hu, Bool.false_eq_true, if_false]

theorem dataWrite_of_none {a : Nat} (v : Byte) (hf : hostAccessFault s a = none) :
    dataWrite a v s = .next { s with mem := s.mem.write a v } := by
  simp only [dataWrite, hf]

/-- The step of a host read of an ordinary byte that is in no race and in no unseen range. -/
theorem step_memRead {a : Nat} {rest : List Event} (hin : s.inbox = .memRead a :: rest)
    (ha : a < 2 ^ s.cfg.addrWidth) (ho : ordinary s.cfg a = true) (hr : s.races a = false)
    (hu : ∀ r ∈ s.unseen, a < r.base ∨ r.base + r.size ≤ a) :
    step s = .next { s with inbox := rest, response := .byte (s.mem.byteAt a) } :=
  (step_of_inbox hin).trans
    (dataRead_of_seen (s := { s with inbox := rest }) (hostAccessFault_eq_none ha ho hr) (State.isUnseen_eq_false hu))

/-- The step of a host write of an ordinary byte that is in no race. -/
theorem step_memWrite {a : Nat} {b : Byte} {rest : List Event} (hin : s.inbox = .memWrite a b :: rest)
    (ha : a < 2 ^ s.cfg.addrWidth) (ho : ordinary s.cfg a = true) (hr : s.races a = false) :
    step s = .next { s with inbox := rest, mem := s.mem.write a b } :=
  (step_of_inbox hin).trans
    (dataWrite_of_none (s := { s with inbox := rest }) b (hostAccessFault_eq_none ha ho hr))

/-- Settles O49: the read step answers the byte in memory, which after a write of it is the byte written. -/
theorem hostReadsTheByteItWrote : Obligations.HostReadsTheByteItWrote := by
  refine ⟨fun s a rest => step_memRead, fun s a b rest hin ha ho hr hu => ⟨s.mem.write a b, ?_, ?_, ?_⟩⟩
  · have hread : step { s with inbox := .memRead a :: rest, mem := s.mem.write a b } =
        .next { s with inbox := rest, mem := s.mem.write a b, response := .byte ((s.mem.write a b).byteAt a) } :=
      step_memRead rfl ha ho hr hu
    rw [Memory.byteAt_write_same] at hread
    simp only [run, step_memWrite hin ha ho hr, hread]
  · exact Memory.byteAt_write_same ..
  · exact fun c hc => Memory.byteAt_write_other _ _ hc

/-- A host access that races with a CRYPT is stopped as such. -/
theorem hostAccessFault_of_races {a : Nat} (ha : a < 2 ^ s.cfg.addrWidth) (ho : ordinary s.cfg a = true)
    (hr : s.races a = true) : hostAccessFault s a = some .bufferRace := by
  simp [hostAccessFault, inSpace, ha, ho, hr]

/-- Settles O50: such a byte races with the CRYPT, which stops the read and the write alike. -/
theorem hostAccessToBusyBuffersRaces : Obligations.HostAccessToBusyBuffersRaces := by
  intro s a b rest hin ha ho hb hop hrange
  have hf : hostAccessFault { s with inbox := rest } a = some .bufferRace :=
    hostAccessFault_of_races ha ho ((State.races_iff _ a).2 ⟨⟨hb, hop⟩, hrange⟩)
  rcases hin with hin | hin
  · simp only [step_of_inbox hin, handle, dataWrite, hf]
  · simp only [step_of_inbox hin, handle, dataRead, hf]

/-! ### What can change memory (20_memory.md R60) -/

@[simp] theorem State.cipherByte_progress (s : State) (rd wr : Nat) :
    (s.cipherByte rd wr).progress = s.progress + 1 := by
  rw [State.cipherByte_eq, State.endBlock]
  split
  · split <;> rfl
  · rfl

theorem SameCommand.phase_eq (h : SameCommand s t) : t.phase = s.phase := by rw [h]

theorem SameCommand.progress_eq (h : SameCommand s t) : t.progress = s.progress := by rw [h]

/-- The byte step moves PROGRESS, which no act of the host on a BUSY block does. -/
theorem not_sameCommand_cipherByte (s : State) (rd wr : Nat) : ¬SameCommand s (s.cipherByte rd wr) := by
  intro h
  have hp : s.progress + 1 = s.progress := (s.cipherByte_progress rd wr).symm.trans h.progress_eq
  bv_omega

/-- The abort ends the command, which no act of the host on a BUSY block does. -/
theorem not_sameCommand_busAbort (hp : s.phase = .xor) (d : Dir) (a : Nat) : ¬SameCommand s (s.busAbort d a) := by
  intro h
  have hidle : Phase.idle = s.phase := h.phase_eq
  exact absurd (hidle.trans hp) (by decide)

/-- Beside a reset and a host write of a byte, only the byte step of CRYPT, with a bus fault or without, changes
memory. -/
theorem Move.mem_eq_or_byteStep {e : Option Event} (m : Move e s t) (hr : e ≠ some .reset)
    (hw : ∀ a b, e ≠ some (.memWrite a b)) : t.mem = s.mem ∨ s.phase = .xor ∧ ¬SameCommand s t := by
  cases m with
  | abort d a hp => exact .inr ⟨hp, not_sameCommand_busAbort hp d a⟩
  | byte hp => exact .inr ⟨hp, not_sameCommand_cipherByte _ _ _⟩
  | writeByte a b he => exact absurd he (hw a b)
  | reset he => exact absurd he hr
  | accept => rw [latchOf_accept_frame]; exact .inl rfl
  | setup => rw [State.setupStep_frame]; exact .inl rfl
  | _ => exact .inl rfl

/-- Settles O51: of the moves left, only the byte step could change memory, and in phase XOR the step is an act of the
host, which leaves the command alone. -/
theorem memoryChangesOnlyByStoresAndReset : Obligations.MemoryChangesOnlyByStoresAndReset := by
  intro s t hst hxor hr hw
  have hr' : s.inbox.head? ≠ some .reset := mt nextIsReset_iff.2 hr
  have hw' (a : Nat) (b : Byte) : s.inbox.head? ≠ some (.memWrite a b) :=
    fun h => hw a b s.inbox.tail (List.cons_head?_tail h).symm
  rcases (step_move hst).mem_eq_or_byteStep hr' hw' with hmem | ⟨hp, hnot⟩
  · exact hmem
  · obtain ⟨hb, e, rest, hin, he⟩ := hxor hp
    have hne : e ≠ .reset := fun h => hr ⟨rest, h ▸ hin⟩
    have hh : handle e { s with inbox := rest } = .next t := (step_of_inbox hin).symm.trans hst
    obtain ⟨hsame, -⟩ := handle_of_busy (s := { s with inbox := rest }) hb he hne hh
    rw [hin] at hnot
    exact absurd hsame hnot

end MemoryProofs

end Sys2Proof.Machine

/-! PROOF. The statements about the encoding (30_encoding.md). The decoder is cut into the reserved bits that it rejects
and `commandOf`, which names the command of OP and VAR; decoding and encoding then undo each other field by field. -/

namespace Sys2Proof.Machine

section EncodingProofs

variable {s : State} {w : Word} {i : Instr}

/-! ### The decoder, field by field (30_encoding.md R86) -/

/-- The word has a bit set that its opcode reserves: in RES0, in RES1, or in the VAR of a command without variants. -/
def ReservedBitSet (w : Word) : Prop :=
  res0Field w ≠ 0 ∨ res1Field w ≠ 0 ∨ ((opField w).toNat ≤ 2 ∧ varField w ≠ 0)

theorem not_reservedBitSet_iff : ¬ReservedBitSet w ↔
    res0Field w = 0 ∧ res1Field w = 0 ∧ ((opField w).toNat ≤ 2 → varField w = 0) := by
  simp only [ReservedBitSet, not_or, not_and, not_not]

theorem decode_of_reserved (h : ReservedBitSet w) : decode w = none := by
  unfold decode
  rcases h with h | h | ⟨hop, hvar⟩
  · rw [if_pos (.inl h)]
  · rw [if_pos (.inr h)]
  · split
    · rfl
    · split
      -- In the rows of opcodes 0 to 2, `split` has already decided `varField w = 0` by `hvar`.
      case h_4 hop' | h_5 hop' => omega
      case h_1 | h_2 | h_3 | h_6 => rfl

theorem commandOf_eq_none_iff {op : BitVec 4} {var : BitVec 8} : commandOf op var = none ↔ 5 ≤ op.toNat := by
  unfold commandOf
  split
  case h_6 => exact iff_of_true rfl (by simp only [imp_false] at *; omega)
  all_goals exact iff_of_false (Option.some_ne_none _) (by omega)

theorem decode_of_not_reserved (h : ¬ReservedBitSet w) : decode w = commandOf (opField w) (varField w) := by
  obtain ⟨h0, h1, hvar⟩ := not_reservedBitSet_iff.1 h
  have hres : ¬(res0Field w ≠ 0 ∨ res1Field w ≠ 0) := by simp [h0, h1]
  rw [decode, if_neg hres]
  split
  case h_1 hop | h_2 hop | h_3 hop => simp only [if_pos (hvar (by omega)), commandOf, hop]
  case h_4 hop | h_5 hop => simp only [commandOf, hop]
  case h_6 => exact (commandOf_eq_none_iff.2 (by simp only [imp_false] at *; omega)).symm

/-- The command of OP and VAR has that VAR, when the commands without variants come with VAR = 0. -/
theorem var_of_commandOf {op : BitVec 4} {var : BitVec 8} (h : commandOf op var = some i)
    (h0 : op.toNat ≤ 2 → var = 0) : i.var = var := by
  unfold commandOf at h
  split at h <;> cases h
  case h_1 hop | h_2 hop | h_3 hop => exact (h0 (by omega)).symm
  all_goals simp [Instr.var]

theorem not_reservedBitSet_encode (i : Instr) : ¬ReservedBitSet (encode i) := by
  refine not_reservedBitSet_iff.2 ⟨res0Field_commandWord _ _, res1Field_commandWord _ _, ?_⟩
  rw [opField_encode, varField_encode]
  cases i with
  | transform v | crypt v => exact fun h => absurd h (of_decide_eq_false rfl)
  | _ => exact fun _ => rfl

theorem decode_encode (h : i.wellFormed = true) : decode (encode i) = some i := by
  rw [decode_of_not_reserved (not_reservedBitSet_encode i), opField_encode, varField_encode, commandOf_op_var h]

theorem encode_of_decode (h : decode w = some i) : encode i = w := by
  have hr : ¬ReservedBitSet w := fun hr => by simp [decode_of_reserved hr] at h
  rw [decode_of_not_reserved hr] at h
  obtain ⟨h0, h1, hvar⟩ := not_reservedBitSet_iff.1 hr
  apply word_eq_of_fields
  · rw [opField_encode, (commandOf_spec h).1]
  · rw [h0]; exact res0Field_commandWord _ _
  · rw [varField_encode, var_of_commandOf h hvar]
  · rw [h1]; exact res1Field_commandWord _ _

/-- The commands and the legal words correspond one to one. -/
theorem decode_eq_some_iff : decode w = some i ↔ i.wellFormed = true ∧ encode i = w :=
  ⟨fun h => ⟨wellFormed_of_decode h, encode_of_decode h⟩, fun ⟨hw, he⟩ => he ▸ decode_encode hw⟩

/-- Settles O1: the reserved bits of an encoded command are clear, and its OP and VAR name the command. -/
theorem decodeOfEncodeIsTheCommand : Obligations.DecodeOfEncodeIsTheCommand :=
  fun _ h => decode_encode h

/-- Settles O2: the command of a word has the OP and the VAR of the word, whose other fields are zero. -/
theorem encodeOfDecodeIsTheWord : Obligations.EncodeOfDecodeIsTheWord :=
  fun _ _ h => decode_eq_some_iff.1 h

/-- Settles O3: a word is rejected for its reserved bits or else for an opcode that `commandOf` has no row for. -/
theorem illegalWordsAreTheReservedOnes : Obligations.IllegalWordsAreTheReservedOnes := by
  intro w
  show decode w = none ↔ 5 ≤ (opField w).toNat ∨ ReservedBitSet w
  by_cases hr : ReservedBitSet w
  · simp [decode_of_reserved hr, hr]
  · rw [decode_of_not_reserved hr, commandOf_eq_none_iff, or_iff_left hr]

/-! ### The rows of the opcode map (30_encoding.md R85, R88) -/

/-- The mask of the commands with variants keeps every field of a word but VAR. -/
theorem fields_and_rowMask (w : Word) : opField (w &&& 0xFFFF00FF) = opField w ∧
    res0Field (w &&& 0xFFFF00FF) = res0Field w ∧ res1Field (w &&& 0xFFFF00FF) = res1Field w := by
  have hop : opField 0xFFFF00FF = BitVec.allOnes 4 := by decide
  have h0 : res0Field 0xFFFF00FF = BitVec.allOnes 4 := by decide
  have h1 : res1Field 0xFFFF00FF = BitVec.allOnes 16 := by decide
  unfold opField res0Field res1Field at *
  simp only [BitVec.extractLsb'_and, hop, h0, h1, BitVec.and_allOnes, and_self]

theorem commandWord_eq_iff (op : BitVec 4) (var : BitVec 8) :
    commandWord op var = w ↔ w &&& 0xFFFF00FF = op.setWidth 32 ∧ var = varField w := by
  constructor
  · rintro rfl
    exact ⟨Laws.TableRow.var_bits op var, (varField_commandWord op var).symm⟩
  · rintro ⟨hm, hv⟩
    have hrow : commandWord op var &&& 0xFFFF00FF = w &&& 0xFFFF00FF := (Laws.TableRow.var_bits op var).trans hm.symm
    obtain ⟨hop, h0, h1⟩ := fields_and_rowMask w
    obtain ⟨hop', h0', h1'⟩ := fields_and_rowMask (commandWord op var)
    apply word_eq_of_fields
    · rw [← hop', hrow, hop]
    · rw [← h0', hrow, h0]
    · rw [varField_commandWord, hv]
    · rw [← h1', hrow, h1]

/-- A row of a command without variants fixes every bit of the word. -/
theorem decode_eq_some_iff_full_mask (hw : i.wellFormed = true) :
    decode w = some i ↔ w &&& 0xFFFFFFFF = encode i := by
  have hmask : w &&& 0xFFFFFFFF = w := BitVec.and_allOnes
  rw [decode_eq_some_iff, hmask, eq_comm (a := w)]
  exact and_iff_right hw

/-- A row of a command with variants fixes every bit but those of VAR, which hold the variant. -/
theorem decode_eq_some_iff_row_mask {v : Nat} (hw : i.wellFormed = true ↔ v < 256) (hv : i.var = BitVec.ofNat 8 v) :
    decode w = some i ↔ w &&& 0xFFFF00FF = i.op.setWidth 32 ∧ v = (varField w).toNat := by
  have hvar : v = (varField w).toNat ↔ v < 256 ∧ BitVec.ofNat 8 v = varField w := by
    constructor
    · rintro rfl
      exact ⟨BitVec.isLt _, by simp⟩
    · rintro ⟨hlt, h⟩
      rw [← h, BitVec.toNat_ofNat, Nat.mod_eq_of_lt hlt]
  rw [decode_eq_some_iff, encode, commandWord_eq_iff, hw, hv, hvar]
  exact and_left_comm

/-- Settles O4: a row of the map matches the words that its commands encode to. -/
theorem opcodeMapRowsByMaskAndMatch : Obligations.OpcodeMapRowsByMaskAndMatch := by
  intro w
  refine ⟨?_, ?_, ?_, fun v => ?_, fun v => ?_⟩
  · exact decode_eq_some_iff_full_mask (i := .nop) rfl
  · exact decode_eq_some_iff_full_mask (i := .buildState) rfl
  · exact decode_eq_some_iff_full_mask (i := .setCounter) rfl
  · exact decode_eq_some_iff_row_mask (i := .transform v) decide_eq_true_iff rfl
  · exact decode_eq_some_iff_row_mask (i := .crypt v) decide_eq_true_iff rfl

/-- A command word as the sum of its OP and its shifted VAR. -/
theorem commandWord_eq_or (op : BitVec 4) (var : BitVec 8) :
    commandWord op var = op.setWidth 32 ||| (var.setWidth 32 <<< 8) := by
  apply BitVec.eq_of_getLsbD_eq
  intro k hk
  simp only [getLsbD_commandWord, BitVec.getLsbD_or, BitVec.getLsbD_setWidth, BitVec.getLsbD_shiftLeft, hk]
  by_cases h4 : k < 4
  · simp [h4, show k < 8 by omega]
  have hop : op.getLsbD k = false := BitVec.getLsbD_of_ge _ _ (by omega)
  by_cases h8 : k < 8
  · simp [h4, h8, hop]
  by_cases h16 : k < 16
  · simp [h4, h8, h16, hop, show k - 8 < 32 by omega]
  · have hvar : var.getLsbD (k - 8) = false := BitVec.getLsbD_of_ge _ _ (by omega)
    simp [h4, h8, h16, hop, hvar]

theorem decode_variant_word (op : BitVec 4) (v : BitVec 8) (hop : i.op = op) (hv : i.var = v)
    (hw : i.wellFormed = true) : decode (op.setWidth 32 ||| (v.setWidth 32 <<< 8)) = some i := by
  rw [← commandWord_eq_or, ← hop, ← hv]
  exact decode_encode hw

theorem decode_transform_word (v : BitVec 8) :
    decode (0x00000003 ||| (v.setWidth 32 <<< 8)) = some (.transform v.toNat) :=
  decode_variant_word 3 v rfl (by simp [Instr.var]) (decide_eq_true v.isLt)

theorem decode_crypt_word (v : BitVec 8) : decode (0x00000004 ||| (v.setWidth 32 <<< 8)) = some (.crypt v.toNat) :=
  decode_variant_word 4 v rfl (by simp [Instr.var]) (decide_eq_true v.isLt)

/-- Settles O5: the canonical word of a command is its encoding, whatever the variant. -/
theorem canonicalWordsDecode : Obligations.CanonicalWordsDecode :=
  ⟨decode_encode (i := .nop) rfl, decode_encode (i := .buildState) rfl, decode_encode (i := .setCounter) rfl,
    decode_transform_word 0, decode_transform_word 1, decode_transform_word 2, decode_transform_word 3,
    decode_crypt_word 0, decode_crypt_word 1, decode_crypt_word 2, decode_crypt_word 3,
    fun v => ⟨decode_transform_word v, decode_crypt_word v⟩⟩

/-! ### The issue of a word (43_control.md R180; 30_encoding.md R89) -/

/-- The next step is a host write (43_control.md R190). -/
theorem step_of_nextWrite {off : Nat} {v : Word} {rest : List Event} (h : NextWrite s off v rest) :
    step s = hostWrite off v { s with inbox := rest } := by
  obtain ⟨hlt, h4, hin⟩ := h
  simp only [step_of_inbox hin, handle, busWrite, windowOffset_add _ hlt h4]

theorem hostWrite_ctrl (hb : s.busy = false) (w : Word) : hostWrite 0 w s = issueWord w s := by
  rw [hostWrite, if_neg (by simp [hb])]
  rfl

theorem step_withIssue (hb : s.busy = false) (w : Word) : step (s.withIssue w) = issueWord w s :=
  (step_of_nextWrite (s := s.withIssue w) ⟨by decide, rfl, rfl⟩).trans (hostWrite_ctrl hb w)

theorem issueWord_illegal (s : State) (h : decode w = none) : issueWord w s = .next (s.report .opcode w) := by
  simp only [issueWord, h]

theorem issueWord_legal (s : State) (h : decode w = some i) : issueWord w s = exec i s := by
  simp only [issueWord, h]

/-- The variant is the first check of CRYPT, so that no other check is reported in its place (60_exceptions.md R203). -/
theorem exec_crypt_of_badVariant {v : Nat} (hp : s.phase = .idle) (hv : ¬v < nVariants) :
    exec (.crypt v) s = .next (s.report .variant (BitVec.ofNat 32 v)) := by
  have hfail : firstFailure (checksOf (.crypt v) s) = some (.variant, BitVec.ofNat 32 v) := by
    simp only [checksOf, cryptChecks, variantCheck, if_neg hv, firstFailure]
  rw [exec_idle _ hp, State.issue, hfail]

/-- Settles O6: the worked words are canonical or break a clause of R87, and an issue reports what its word is rejected
for. -/
theorem workedWordsAreReported : Obligations.WorkedWordsAreReported := by
  have hvar : decode 0x00000101 = none := decode_of_reserved (.inr (.inr ⟨by decide, by decide⟩))
  have hres0 : decode 0x00000014 = none := decode_of_reserved (.inl (by decide))
  have hop : decode 0x00000007 = none := (illegalWordsAreTheReservedOnes _).2 (.inl (by decide))
  have hres1 : decode 0x80000003 = none := decode_of_reserved (.inr (.inl (by decide)))
  refine ⟨decode_crypt_word 2, by decide, decode_crypt_word 4, hvar, hres0, hop, hres1, fun s hp hb => ?_⟩
  have illegal (n : Nat) (h : decode (tableWord 32 n) = none) :
      step (s.withFetchWord 32 n) = .next (s.report .opcode (tableWord 32 n)) :=
    (step_withIssue hb _).trans (issueWord_illegal s h)
  refine ⟨?_, illegal 0x00000101 hvar, illegal 0x00000014 hres0, illegal 0x00000007 hop, illegal 0x80000003 hres1⟩
  exact (step_withIssue hb _).trans <| (issueWord_legal s (decode_crypt_word 4)).trans <|
    exec_crypt_of_badVariant hp (by decide)

end EncodingProofs

end Sys2Proof.Machine

/-! PROOF. The statements about the state builder (40_state_builder.md): what `build` and `setctr` put into each cell, and
the engine steps of BUILD_STATE and SET_COUNTER, which write those cells and finish. -/

namespace Sys2Proof.Machine

section StateBuilderProofs

variable {s : State}

/-! ### The cells of a built state (40_state_builder.md R101, R102) -/

/-- The cells that hold the key. -/
def keyCells : List (Fin 16) := [1, 2, 3, 4, 11, 12, 13, 14]

theorem getElem_build_keyCell (l : KeyLayout) (key : Vector Word 8) (nonce counter : DWord) :
    ∀ p ∈ keyCells, (build l key nonce counter)[p] = key[keyIndex l p] := by
  simp only [keyCells, List.forall_mem_cons]
  exact ⟨rfl, rfl, rfl, rfl, rfl, rfl, rfl, rfl, by simp⟩

/-- Every layout gives every key word a cell. -/
theorem exists_keyCell (l : KeyLayout) : ∀ i : Fin 8, ∃ p ∈ keyCells, keyIndex l p = i := by
  cases l <;> decide

theorem ofHalves_build_nonce (l : KeyLayout) (key : Vector Word 8) (nonce counter : DWord) :
    DWord.ofHalves (build l key nonce counter)[7] (build l key nonce counter)[6] = nonce :=
  DWord.ofHalves_hi_lo nonce

theorem ofHalves_build_counter (l : KeyLayout) (key : Vector Word 8) (nonce counter : DWord) :
    DWord.ofHalves (build l key nonce counter)[9] (build l key nonce counter)[8] = counter :=
  DWord.ofHalves_hi_lo counter

/-- Settles O26: with the layout fixed, every cell is the one that `build` writes there. -/
theorem buildPlacesEveryCell : Obligations.BuildPlacesEveryCell :=
  fun _ _ _ => ⟨rfl, rfl, rfl⟩

/-- Settles O27: the nonce and the counter are joined again from their two cells, and each key word is read from its
cell. -/
theorem buildLosesNothing : Obligations.BuildLosesNothing := by
  intro l key key' nonce nonce' counter counter' h
  have hkey : ∀ i : Fin 8, key[i] = key'[i] := by
    intro i
    obtain ⟨p, hp, rfl⟩ := exists_keyCell l i
    rw [← getElem_build_keyCell l key nonce counter p hp, h, getElem_build_keyCell l key' nonce' counter' p hp]
  refine ⟨Vector.ext fun i hi => hkey ⟨i, hi⟩, ?_, ?_⟩
  · rw [← ofHalves_build_nonce l key nonce counter, h, ofHalves_build_nonce]
  · rw [← ofHalves_build_counter l key nonce counter, h, ofHalves_build_counter]

theorem build_zero (l : KeyLayout) : build l (Vector.replicate 8 0) 0 0 =
    #v[sigma0, 0, 0, 0, 0, sigma1, 0, 0, 0, 0, sigma2, 0, 0, 0, 0, sigma3] := by
  simp only [build, Fin.getElem_fin, Vector.getElem_replicate]
  rfl

/-! ### The cells that setctr writes (40_state_builder.md R106) -/

theorem getElem_setctr_lo (b : Block) (c : DWord) : (setctr b c)[(8 : Fin 16)] = c.lo :=
  (Vector.getElem_set_ne (i := 9) (j := 8) _ _ (by decide)).trans (Vector.getElem_set_self _)

theorem getElem_setctr_hi (b : Block) (c : DWord) : (setctr b c)[(9 : Fin 16)] = c.hi :=
  Vector.getElem_set_self _

theorem getElem_setctr_of_ne (b : Block) (c : DWord) {i : Fin 16} (h8 : i ≠ 8) (h9 : i ≠ 9) :
    (setctr b c)[i] = b[i] := by
  have h8' : 8 ≠ i.val := fun h => h8 (Fin.ext h.symm)
  have h9' : 9 ≠ i.val := fun h => h9 (Fin.ext h.symm)
  rw [Fin.getElem_fin, setctr, Vector.getElem_set_ne _ _ h9', Vector.getElem_set_ne _ _ h8', Fin.getElem_fin]

/-! ### The engine steps (40_state_builder.md R108, R112, R113) -/

theorem exec_buildState_of_start (h : s.phase = .start) : exec .buildState s = .next s.buildStep := by
  simp only [exec, execBuildState, h]

theorem exec_setCounter_of_start (h : s.phase = .start) : exec .setCounter s = .next s.setCounterStep := by
  simp only [exec, execSetCounter, h]

@[simp] theorem State.buildStep_matrix (s : State) :
    s.buildStep.matrix = build s.cfg.keyLayout s.operands.key s.operands.nonce s.operands.counter := rfl

@[simp] theorem State.setCounterStep_matrix (s : State) :
    s.setCounterStep.matrix = setctr s.matrix s.operands.counter := rfl

theorem State.getLsbD_setCounterStep_svalid (s : State) (k : Nat) :
    s.setCounterStep.svalid.getLsbD k = (s.svalid.getLsbD k || decide (k = 8) || decide (k = 9)) := by
  change (setBit (setBit s.svalid 8) 9).getLsbD k = _
  rw [getLsbD_setBit _ (by decide), getLsbD_setBit _ (by decide)]

/-- Settles O23: the step is `setMatrix` of the built state and then `finish`. -/
theorem buildStateWritesTheMatrix : Obligations.BuildStateWritesTheMatrix :=
  fun _ h => exec_buildState_of_start h

/-- Settles O24: the step is `setctr`, the two valid bits and then `finish`. -/
theorem setCounterWritesTheCounterCells : Obligations.SetCounterWritesTheCounterCells := by
  intro s h
  refine ⟨_, exec_setCounter_of_start h, ?_, ?_, fun i h8 h9 => ?_, s.getLsbD_setCounterStep_svalid, rfl⟩
  · rw [State.setCounterStep_matrix, getElem_setctr_lo, Operands.counter, DWord.lo_ofHalves]
  · rw [State.setCounterStep_matrix, getElem_setctr_hi, Operands.counter, DWord.hi_ofHalves]
  · rw [State.setCounterStep_matrix, getElem_setctr_of_ne _ _ h8 h9]

/-- Settles O28: SET_COUNTER applies `setctr`, which on a built state rebuilds it and on any other writes two cells. -/
theorem setCounterEqualsRebuilding : Obligations.SetCounterEqualsRebuilding := by
  refine ⟨setctr_build, fun s c1 h => ⟨_, exec_setCounter_of_start h, fun hbuilt => ?_, fun i h8 h9 => ?_⟩⟩
  · rw [State.setCounterStep_matrix, hbuilt, setctr_build]
  · rw [State.setCounterStep_matrix, getElem_setctr_of_ne _ _ h8 h9]

/-- Settles O29: every key word, nonce half and counter half is zero, so that the layout does not matter. -/
theorem zeroOperandsBuildTheKnownVector : Obligations.ZeroOperandsBuildTheKnownVector := by
  intro s h hkey hnonce hcounter
  refine ⟨_, exec_buildState_of_start h, ?_⟩
  rw [State.buildStep_matrix, hkey, hnonce, hcounter]
  exact build_zero _

end StateBuilderProofs

end Sys2Proof.Machine

/-! PROOF. The statements about the core transform (41_core_transform.md). A half-round is four quarter-rounds of disjoint
groups of cells, so one lemma gives every cell of it in any order of the groups; the rest is read off the cells. -/

namespace Sys2Proof.Machine

section CoreTransformProofs

variable {s : State}

/-! ### Rotation (41_core_transform.md R121) -/

theorem getLsbD_rotl32 (x : Word) {n k : Nat} (h0 : 0 < n) (hn : n < 32) (hk : k < 32) :
    (rotl32 x n).getLsbD ((k + n) % 32) = x.getLsbD k := by
  rw [rotl32, BitVec.getLsbD_or, BitVec.getLsbD_shiftLeft, BitVec.getLsbD_ushiftRight]
  by_cases hw : k + n < 32
  · have hhigh : x.getLsbD (32 - n + (k + n)) = false := BitVec.getLsbD_of_ge _ _ (by omega)
    simp [Nat.mod_eq_of_lt hw, hw, hhigh]
  · have hmod : (k + n) % 32 = k + n - 32 := by omega
    have hlow : k + n - 32 < n := by omega
    have hback : 32 - n + (k + n - 32) = k := by omega
    simp [hmod, hlow, hback]

/-- A word whose bits are all equal is its own rotation. -/
theorem rotl32_of_uniform {x : Word} {b : Bool} (hx : ∀ k < 32, x.getLsbD k = b) {n : Nat} (h0 : 0 < n) (hn : n < 32) :
    rotl32 x n = x := by
  apply BitVec.eq_of_getLsbD_eq
  intro j hj
  have hsource : ((j + 32 - n) % 32 + n) % 32 = j := by omega
  have hbit := getLsbD_rotl32 x h0 hn (Nat.mod_lt (j + 32 - n) (by decide))
  rw [hsource] at hbit
  rw [hbit, hx _ (Nat.mod_lt _ (by decide)), hx j hj]

/-- Settles O30: the two shifts give the bits below and above the wrap, and zero and all ones have equal bits. -/
theorem rotationMovesEachBit : Obligations.RotationMovesEachBit :=
  ⟨fun x _ _ h0 hn hk => getLsbD_rotl32 x h0 hn hk,
    fun _ h0 hn => ⟨rotl32_of_uniform (b := false) (by decide) h0 hn, rotl32_of_uniform (b := true) (by decide) h0 hn⟩,
    by decide, by decide, by decide, by decide⟩

/-! ### The quarter-round (41_core_transform.md R122, R123) -/

theorem xor_right_bijective (c : Word) : Function.Bijective fun x : Word => x ^^^ c :=
  Function.Involutive.bijective fun x => by simp

/-- The four words (a, b, c, d) of a quarter-round. -/
abbrev Quad := Word × Word × Word × Word

/-- The first update of the quarter-round, of b. -/
def updateB (q : Quad) : Quad := (q.1, q.2.1 ^^^ rotl32 (q.1 + q.2.2.2) 7, q.2.2.1, q.2.2.2)

/-- The second update, of c. -/
def updateC (q : Quad) : Quad := (q.1, q.2.1, q.2.2.1 ^^^ rotl32 (q.1 + q.2.1) 9, q.2.2.2)

/-- The third update, of d. -/
def updateD (q : Quad) : Quad := (q.1, q.2.1, q.2.2.1, q.2.2.2 ^^^ rotl32 (q.2.2.1 + q.2.1) 13)

/-- The last update, of a. -/
def updateA (q : Quad) : Quad := (q.1 ^^^ rotl32 (q.2.2.2 + q.2.2.1) 18, q.2.1, q.2.2.1, q.2.2.2)

theorem updateB_involutive : Function.Involutive updateB := fun q => by simp [updateB]

theorem updateC_involutive : Function.Involutive updateC := fun q => by simp [updateC]

theorem updateD_involutive : Function.Involutive updateD := fun q => by simp [updateD]

theorem updateA_involutive : Function.Involutive updateA := fun q => by simp [updateA]

theorem quarterround_eq_updates :
    (fun q : Quad => quarterround q.1 q.2.1 q.2.2.1 q.2.2.2) = updateA ∘ updateD ∘ updateC ∘ updateB := rfl

/-- Settles O31: every update is an involution, since it does not write the words that its mask is made of. -/
theorem quarterroundIsAPermutation : Obligations.QuarterroundIsAPermutation := by
  refine ⟨by decide, by decide, by decide, fun _ _ => xor_right_bijective _, fun _ _ => xor_right_bijective _,
    fun _ _ => xor_right_bijective _, fun _ _ => xor_right_bijective _, ?_⟩
  change Function.Bijective (fun q : Quad => quarterround q.1 q.2.1 q.2.2.1 q.2.2.2)
  rw [quarterround_eq_updates]
  exact updateA_involutive.bijective.comp <| updateD_involutive.bijective.comp <|
    updateC_involutive.bijective.comp updateB_involutive.bijective

/-! ### The groups of a half-round (41_core_transform.md R124, R126, R128) -/

/-- The words that a quarter-round makes of `x 0`, …, `x 3`, by position. -/
def quarterWord (x : Fin 4 → Word) (k : Fin 4) : Word :=
  let q := quarterround (x 0) (x 1) (x 2) (x 3)
  ![q.1, q.2.1, q.2.2.1, q.2.2.2] k

/-- The quarter-round of a group of cells. -/
def quarterGroup (g : Fin 4 → Fin 16) (b : Block) : Block := quarterAt b (g 0) (g 1) (g 2) (g 3)

theorem getElem_quarterGroup {g : Fin 4 → Fin 16} (hg : Function.Injective g) (b : Block) (k : Fin 4) :
    (quarterGroup g b)[g k] = quarterWord (fun k => b[g k]) k := by
  match k with
  | 0 | 1 | 2 | 3 => simp [quarterGroup, quarterAt, quarterWord, Fin.val_inj, hg.eq_iff]

theorem getElem_quarterGroup_of_forall_ne {g : Fin 4 → Fin 16} {p : Fin 16} (hp : ∀ k, g k ≠ p) (b : Block) :
    (quarterGroup g b)[p] = b[p] := by
  simp [quarterGroup, quarterAt, Fin.val_inj, hp]

/-- The quarter-rounds of the groups `g j`, for the `j` of the list in its order. -/
def quarterGroups (g : Fin 4 → Fin 4 → Fin 16) (order : List (Fin 4)) (b : Block) : Block :=
  order.foldl (fun b j => quarterGroup (g j) b) b

theorem quarterGroups_cons (g : Fin 4 → Fin 4 → Fin 16) (j : Fin 4) (order : List (Fin 4)) (b : Block) :
    quarterGroups g (j :: order) b = quarterGroups g order (quarterGroup (g j) b) := rfl

theorem foldl_columnQuarter (order : List (Fin 4)) (b : Block) :
    order.foldl columnQuarter b = quarterGroups columnCell order b := rfl

theorem foldl_rowQuarter (order : List (Fin 4)) (b : Block) :
    order.foldl rowQuarter b = quarterGroups rowCell order b := rfl

/-- The four groups of a half-round are disjoint and cover the block (41_core_transform.md R128). -/
def Partitions (g : Fin 4 → Fin 4 → Fin 16) : Prop := Function.Bijective fun jk : Fin 4 × Fin 4 => g jk.1 jk.2

theorem partitions_columnCell : Partitions columnCell := by unfold Partitions; decide

theorem partitions_rowCell : Partitions rowCell := by unfold Partitions; decide

section Partition

variable {g : Fin 4 → Fin 4 → Fin 16} (hg : Partitions g)
include hg

theorem Partitions.injective (j : Fin 4) : Function.Injective (g j) :=
  fun _ _ h => (Prod.mk.inj (hg.1 h)).2

theorem Partitions.disjoint {i j : Fin 4} (h : i ≠ j) (k l : Fin 4) : g i k ≠ g j l :=
  fun he => h (Prod.mk.inj (hg.1 he)).1

theorem Partitions.block_ext {a b : Block} (h : ∀ j k, a[g j k] = b[g j k]) : a = b := by
  have hcell (p : Fin 16) : a[p] = b[p] := by
    obtain ⟨⟨j, k⟩, rfl⟩ := hg.2 p
    exact h j k
  exact Vector.ext fun p hp => hcell ⟨p, hp⟩

/-- A group that is not in the list keeps its words. -/
theorem Partitions.getElem_quarterGroups_of_notMem {order : List (Fin 4)} {j : Fin 4} (hj : j ∉ order) (b : Block)
    (k : Fin 4) :
    (quarterGroups g order b)[g j k] = b[g j k] := by
  induction order generalizing b with
  | nil => rfl
  | cons i order ih =>
    obtain ⟨hne, hj⟩ := not_or.1 (mt List.mem_cons.2 hj)
    rw [quarterGroups_cons, ih hj, getElem_quarterGroup_of_forall_ne fun l => hg.disjoint (Ne.symm hne) l k]

/-- A group that is in the list once takes its quarter-round, wherever it stands in the list. -/
theorem Partitions.getElem_quarterGroups_of_mem {order : List (Fin 4)} (hnd : order.Nodup) {j : Fin 4} (hj : j ∈ order)
    (b : Block) (k : Fin 4) :
    (quarterGroups g order b)[g j k] = quarterWord (fun k => b[g j k]) k := by
  induction order generalizing b with
  | nil => cases hj
  | cons i order ih =>
    obtain ⟨hi, hnd⟩ := List.nodup_cons.1 hnd
    rw [quarterGroups_cons]
    obtain rfl | hmem := List.mem_cons.1 hj
    · rw [hg.getElem_quarterGroups_of_notMem hi, getElem_quarterGroup (hg.injective j)]
    · have hne : i ≠ j := fun h => hi (h ▸ hmem)
      have hkeep (k : Fin 4) : (quarterGroup (g i) b)[g j k] = b[g j k] :=
        getElem_quarterGroup_of_forall_ne (fun l => hg.disjoint hne l k) b
      simp only [ih hnd hmem, hkeep]

/-- The groups give the same block in any order (41_core_transform.md R128). -/
theorem Partitions.getElem_quarterGroups_of_perm {order : List (Fin 4)} (ho : order.Perm [0, 1, 2, 3]) (b : Block)
    (j k : Fin 4) :
    (quarterGroups g order b)[g j k] = quarterWord (fun k => b[g j k]) k :=
  hg.getElem_quarterGroups_of_mem (ho.nodup_iff.2 (by decide)) (ho.mem_iff.2 (by revert j; decide)) b k

end Partition

theorem getElem_columnround (b : Block) (j k : Fin 4) :
    (columnround b)[columnCell j k] = quarterWord (fun k => b[columnCell j k]) k := by
  rw [columnround, foldl_columnQuarter, partitions_columnCell.getElem_quarterGroups_of_perm (.refl _)]

theorem getElem_rowround (b : Block) (i k : Fin 4) :
    (rowround b)[rowCell i k] = quarterWord (fun k => b[rowCell i k]) k := by
  rw [rowround, foldl_rowQuarter, partitions_rowCell.getElem_quarterGroups_of_perm (.refl _)]

/-- Settles O32: the cells of each group are disjoint from those of the others, so that each takes its own quarter-round
of the block that the half-round began with. -/
theorem groupOrderDoesNotMatter : Obligations.GroupOrderDoesNotMatter := by
  refine ⟨by decide, by decide, fun p => ⟨partitions_columnCell.existsUnique p, partitions_rowCell.existsUnique p⟩,
    fun order b ho => ⟨?_, ?_⟩⟩
  · exact partitions_columnCell.block_ext fun j k => by
      rw [foldl_columnQuarter, partitions_columnCell.getElem_quarterGroups_of_perm ho, getElem_columnround]
  · exact partitions_rowCell.block_ext fun i k => by
      rw [foldl_rowQuarter, partitions_rowCell.getElem_quarterGroups_of_perm ho, getElem_rowround]

/-! ### The transpose form (41_core_transform.md R126, R129, R131) -/

theorem getElem_transpose (b : Block) (p : Fin 16) :
    (transpose b)[p] = b[(⟨4 * (p.val % 4) + p.val / 4, by omega⟩ : Fin 16)] := by
  simp [transpose]

/-- Row group i of the transpose is column group i (41_core_transform.md R126). -/
theorem getElem_transpose_rowCell (b : Block) (i k : Fin 4) : (transpose b)[rowCell i k] = b[columnCell i k] := by
  rw [getElem_transpose]
  congr 1
  revert i k
  decide

theorem getElem_transpose_columnCell (b : Block) (j k : Fin 4) : (transpose b)[columnCell j k] = b[rowCell j k] := by
  rw [getElem_transpose]
  congr 1
  revert j k
  decide

theorem rowround_eq_transpose (b : Block) : rowround b = transpose (columnround (transpose b)) :=
  partitions_rowCell.block_ext fun i k => by
    simp only [getElem_rowround, getElem_transpose_rowCell, getElem_columnround, getElem_transpose_columnCell]

/-- Settles O33: on row group i, the transposed column round is the quarter-round of the words of row group i. -/
theorem rowroundIsColumnroundTransposed : Obligations.RowroundIsColumnroundTransposed :=
  rowround_eq_transpose

/-- Two rounds of the transpose form are one double round (41_core_transform.md R131). -/
theorem transposedRounds_two_mul (n : Nat) (b : Block) : transposedRounds (2 * n) b = doublerounds n b := by
  induction n generalizing b with
  | zero => rfl
  | succ n ih =>
    calc transposedRounds (2 * (n + 1)) b
      _ = transposedRounds (2 * n) (transpose (columnround (transpose (columnround b)))) := rfl
      _ = transposedRounds (2 * n) (doubleround b) := by rw [doubleround, rowround_eq_transpose]
      _ = doublerounds (n + 1) b := ih _

theorem salsaCore_eq_salsaCoreT (b : Block) : salsaCore b = salsaCoreT b := by
  rw [salsaCore, salsaCoreT, ← transposedRounds_two_mul 10]

/-- Settles O34: twenty rounds of the transpose form are ten double rounds. -/
theorem coreEqualsTheTransposeForm : Obligations.CoreEqualsTheTransposeForm :=
  salsaCore_eq_salsaCoreT

/-! ### Uniform blocks (41_core_transform.md R133) -/

theorem getElem_salsaCore (b : Block) (p : Fin 16) : (salsaCore b)[p] = (transposedRounds 20 b)[p] + b[p] := by
  rw [salsaCore_eq_salsaCoreT]
  exact Vector.getElem_zipWith ..

theorem quarterWord_zero : ∀ k, quarterWord (fun _ => 0) k = 0 := by decide

theorem transposedRounds_zero (n : Nat) : transposedRounds n (Vector.replicate 16 0) = Vector.replicate 16 0 := by
  have hcell (p : Fin 16) : (Vector.replicate 16 0 : Block)[p] = 0 := Vector.getElem_replicate _
  have hround : transpose (columnround (Vector.replicate 16 0)) = Vector.replicate 16 0 :=
    partitions_rowCell.block_ext fun i k => by
      simp only [getElem_transpose_rowCell, getElem_columnround, hcell, quarterWord_zero]
  induction n with
  | zero => rfl
  | succ n ih => rw [transposedRounds, hround, ih]

/-- Every word operation maps 0 to 0 (41_core_transform.md R133). -/
theorem salsaCore_zero : salsaCore (Vector.replicate 16 0) = Vector.replicate 16 0 :=
  partitions_rowCell.block_ext fun i k => by
    rw [getElem_salsaCore, transposedRounds_zero, Fin.getElem_fin, Vector.getElem_replicate, add_zero]

/-- Row i is row 0 shifted right by i word positions: every row group reads the same four words. -/
def RowsShift (b : Block) : Prop := ∀ i k, b[rowCell i k] = b[rowCell 0 k]

theorem columnCell_eq_rowCell (j k : Fin 4) : columnCell j k = rowCell (j + k) (-k) := by
  revert j k
  decide

/-- Such a block reads the same four words along its column groups as well. -/
theorem RowsShift.columns {b : Block} (h : RowsShift b) (j k : Fin 4) : b[columnCell j k] = b[columnCell 0 k] := by
  simp only [columnCell_eq_rowCell, h (_ + _)]

/-- The column groups hold the same words before the round, so they do after it, and the transpose makes them rows. -/
theorem RowsShift.transposedRound {b : Block} (h : RowsShift b) : RowsShift (transpose (columnround b)) := by
  intro i k
  simp only [getElem_transpose_rowCell, getElem_columnround, h.columns i]

theorem RowsShift.transposedRounds {b : Block} (h : RowsShift b) (n : Nat) : RowsShift (transposedRounds n b) := by
  induction n generalizing b with
  | zero => exact h
  | succ n ih => exact ih h.transposedRound

theorem RowsShift.salsaCore {b : Block} (h : RowsShift b) : RowsShift (salsaCore b) := by
  intro i k
  rw [getElem_salsaCore, getElem_salsaCore, h.transposedRounds 20, h]

theorem rowsShift_replicate (w : Word) : RowsShift (Vector.replicate 16 w) := fun i k => by
  simp only [Fin.getElem_fin, Vector.getElem_replicate]

/-- The word in row r and column c is the one of row 0, r positions to the left. -/
theorem RowsShift.getElem_row {b : Block} (h : RowsShift b) (r c : Fin 4) :
    b[(⟨4 * r.val + c.val, by omega⟩ : Fin 16)] = b[(⟨(c.val + 4 - r.val) % 4, by omega⟩ : Fin 16)] := by
  have hcell : ∀ r c : Fin 4, (⟨4 * r.val + c.val, by omega⟩ : Fin 16) = rowCell r (c - r) := by decide
  have hcell0 : ∀ r c : Fin 4, (⟨(c.val + 4 - r.val) % 4, by omega⟩ : Fin 16) = rowCell 0 (c - r) := by decide
  simp only [hcell, hcell0, h r]

/-! ### The engine step of TRANSFORM (41_core_transform.md R133, R136) -/

theorem exec_transform_of_start (v : Nat) (h : s.phase = .start) : exec (.transform v) s = .next s.transformStep := by
  simp only [exec, execTransform, h]

@[simp] theorem State.transformStep_ks (s : State) : s.transformStep.ks = salsaCore s.matrix := rfl

/-- Settles O25: the step is `setKs` of the core transform and then `finish`. -/
theorem transformWritesTheKeystream : Obligations.TransformWritesTheKeystream :=
  fun s v h => ⟨_, exec_transform_of_start v h, rfl, getLsbD_setBit s.valid (by decide), rfl⟩

/-- Settles O35: a zero block stays zero, and in a block of one word row r is row 0 shifted by r, which every round and
the feed-forward keep. -/
theorem transformOfUniformStates : Obligations.TransformOfUniformStates := by
  refine fun s v h => ⟨_, exec_transform_of_start v h, fun hzero => ?_, fun hones r c => ?_⟩
  · rw [State.transformStep_ks, hzero, salsaCore_zero]
  · have hshift : RowsShift s.transformStep.ks := by
      rw [State.transformStep_ks, hones]
      exact (rowsShift_replicate _).salsaCore
    exact hshift.getElem_row r c

/-! ### BUILD_STATE and then TRANSFORM (41_core_transform.md R134; 42_streamer.md R170) -/

theorem run_succ_of_step {t : State} {n : Nat} (h : step s = .next t) : run (n + 1) s = run n t := by
  simp only [run, h]

theorem issueWord_accept {w : Word} {i : Instr} (hp : s.phase = .idle) (hr : Ready i s) (hw : decode w = some i) :
    issueWord w s = .next (latchOf i (s.accept w)) := by
  rw [issueWord_legal _ hw, exec_idle _ hp, encode_of_decode hw, State.issue, hr]

/-- The host's write of a command word to CTRL is accepted when its checks pass (43_control.md R180, R183). -/
theorem step_accept {w : Word} {i : Instr} {rest : List Event} (hp : s.phase = .idle) (hb : s.busy = false)
    (hr : Ready i s) (hin : s.inbox = .busWrite s.cfg.regBase 4 w :: rest) (hw : decode w = some i) :
    step s = .next (latchOf i (State.accept { s with inbox := rest } w)) := by
  have hready : Ready i { s with inbox := rest } := hr.mono rfl rfl (fun _ => id) id
  calc step s
    _ = hostWrite 0 w { s with inbox := rest } := step_of_nextWrite ⟨by decide, rfl, hin⟩
    _ = issueWord w { s with inbox := rest } := hostWrite_ctrl (s := { s with inbox := rest }) hb w
    _ = _ := issueWord_accept (s := { s with inbox := rest }) hp hready hw

/-- A turn of the engine runs the command that the accept latched (43_control.md R185). -/
theorem step_engine {i : Instr} {rest : List Event} (hp : s.phase ≠ .idle) (hin : s.inbox = .engine :: rest)
    (hi : commandOf s.op s.var = some i) : step s = exec i { s with inbox := rest } := by
  rw [step_of_inbox hin]
  simp only [handle, engineTurn, if_neg hp, hi]

/-- The issue of a command other than CRYPT and its one engine step, which ends in `f` of the accepted state. -/
theorem run_issue_engine {w : Word} {i : Instr} {rest : List Event} {f : State → State} (hp : s.phase = .idle)
    (hb : s.busy = false) (hr : Ready i s) (hin : s.inbox = .busWrite s.cfg.regBase 4 w :: .engine :: rest)
    (hw : decode w = some i) (hlatch : ∀ u, latchOf i u = u)
    (hf : ∀ u : State, u.phase = .start → exec i u = .next (f u)) (n : Nat) :
    run (n + 2) s = run n (f (State.accept { s with inbox := rest } w)) := by
  have haccept := step_accept hp hb hr hin hw
  rw [hlatch] at haccept
  have hcommand : commandOf (opField w) (varField w) = some i := by
    rw [← encode_of_decode hw, opField_encode, varField_encode, commandOf_op_var (wellFormed_of_decode hw)]
  have hengine := step_engine (s := State.accept { s with inbox := .engine :: rest } w) (by simp) rfl hcommand
  rw [run_succ_of_step haccept, run_succ_of_step (hengine.trans (hf _ rfl))]
  rfl

theorem decode_transform_variant {v : Nat} (hv : v < 256) :
    decode (0x00000003 ||| (BitVec.ofNat 32 v <<< 8)) = some (.transform v) := by
  have h := decode_transform_word (BitVec.ofNat 8 v)
  rwa [BitVec.setWidth_ofNat_of_le_of_lt (by decide) hv, BitVec.toNat_ofNat, Nat.mod_eq_of_lt hv] at h

theorem ready_transform {v : Nat} (hv : v < 4) (hs : s.svalid = allStateValid) : Ready (.transform v) s := by
  rw [Ready, firstFailure_none]
  simp [checksOf, transformChecks, stateCheck_none, hv, hs]

/-- Settles O36: each command is issued and takes its one engine step; BUILD_STATE leaves every state word valid, so that
TRANSFORM passes its checks. -/
theorem transformAfterBuildGivesAKeystreamBlock : Obligations.TransformAfterBuildGivesAKeystreamBlock := by
  intro s v hp hb hr hv hin
  have hbuild := run_issue_engine hp hb hr hin (w := 0x00000001) (i := .buildState) (by decide) (fun _ => rfl)
    (fun _ => exec_buildState_of_start) 2
  refine ⟨_, hbuild.trans <| run_issue_engine (w := 0x00000003 ||| (BitVec.ofNat 32 v <<< 8)) rfl rfl
    (ready_transform hv rfl) rfl (decode_transform_variant (by omega)) (fun _ => rfl) (fun _ => exec_transform_of_start v) 0,
    rfl, rfl, rfl, rfl, rfl⟩

end CoreTransformProofs

end Sys2Proof.Machine

/-! PROOF. The statements about the streamer (42_streamer.md). `Underway s u` says where the CRYPT issued in `s` stands
in `u`: an act of the host and an engine step keep it, so that it holds at the end of a run, however the two fall. -/

namespace Sys2Proof.Machine

section StreamerProofs

variable {s t u : State} {v n : Nat} {e : Option Event}

/-! ### The setup step and the generation step (42_streamer.md R152, R155, R167) -/

theorem State.whenOrdinary_of_ordinary (hb : s.buffersOrdinary = true) (o : Host.Outcome State Fault Refusal) :
    s.whenOrdinary o = o := by
  rw [State.whenOrdinary, if_pos hb]

theorem exec_crypt_of_start (v : Nat) (hp : s.phase = .start) (hb : s.buffersOrdinary = true) :
    exec (.crypt v) s = .next s.setupStep := by
  simp only [exec, execCrypt, hp, State.whenOrdinary_of_ordinary hb]

theorem exec_crypt_of_gen (v : Nat) (hp : s.phase = .gen) (hb : s.buffersOrdinary = true) :
    exec (.crypt v) s = .next s.genStep := by
  simp only [exec, execCrypt, hp, State.whenOrdinary_of_ordinary hb]

theorem exec_crypt_of_xor (v : Nat) (hp : s.phase = .xor) (hb : s.buffersOrdinary = true) :
    exec (.crypt v) s = s.byteStep := by
  simp only [exec, execCrypt, hp, State.whenOrdinary_of_ordinary hb]

/-- S as the setup step builds it, with its counter and valid bits (42_streamer.md R152). -/
def State.setup (s : State) : State :=
  { s.setMatrix (build s.cfg.keyLayout s.operands.key s.operands.nonce 0) with ctr := 0 }

theorem State.setupStep_of_empty (h : s.lMlen = 0) : s.setupStep = s.setup.finish := by
  rw [State.setupStep, if_pos h, State.setup]

theorem State.setupStep_of_nonempty (h : s.lMlen ≠ 0) :
    s.setupStep = { s.setup with unseen := s.ciphRange :: s.unseen, phase := .gen } := by
  rw [State.setupStep, if_neg h]
  rfl

/-- Settles O38: the step is `setup`, after which a message of no bytes is finished. -/
theorem cryptSetupBuildsWithCounterZero : Obligations.CryptSetupBuildsWithCounterZero := by
  intro s v hp hb
  rw [exec_crypt_of_start v hp hb]
  refine ⟨fun hlen => ?_, fun hlen => ?_⟩
  · rw [State.setupStep_of_nonempty hlen]
    rfl
  · rw [State.setupStep_of_empty hlen]
    rfl

/-- Settles O39: the step is `setKs` of the core transform. -/
theorem cryptGenerationStepWritesKs : Obligations.CryptGenerationStepWritesKs :=
  fun s v hp hb => ⟨_, exec_crypt_of_gen v hp hb, rfl, getLsbD_setBit s.valid (by decide), rfl⟩

/-! ### The byte step (42_streamer.md R157, R158, R160) -/

theorem State.byteStep_of_noFault (hrd : s.readAddr < 2 ^ s.cfg.addrWidth) (hwr : s.writeAddr < 2 ^ s.cfg.addrWidth)
    (hr : memFault s.cfg .read s.readAddr = false) (hw : memFault s.cfg .write s.writeAddr = false) :
    s.byteStep = .next (s.cipherByte s.readAddr s.writeAddr) := by
  simp [State.byteStep, inSpace, hrd, hwr, hr, hw]

/-- The counter and its cells of S at the end of a block (42_streamer.md R158). -/
def State.nextCounter (s : State) : State := { s with ctr := s.ctr + 1, matrix := setctr s.matrix (s.ctr + 1) }

theorem State.endBlock_of_last (h : s.progress = s.lMlen) : s.endBlock = s.nextCounter.finish := if_pos h

theorem State.endBlock_of_more (h : s.progress ≠ s.lMlen) : s.endBlock = { s.nextCounter with phase := .gen } :=
  if_neg h

theorem State.cipherByte_of_last (rd wr : Nat) (h : s.progress + 1 = s.lMlen) :
    s.cipherByte rd wr = (s.storeByte rd wr).nextCounter.finish := by
  rw [State.cipherByte_eq, if_pos (.inr h)]
  exact State.endBlock_of_last h

theorem State.cipherByte_of_blockEnd (rd wr : Nat) (h : s.progress + 1 ≠ s.lMlen)
    (h64 : (s.progress.toNat + 1) % 64 = 0) :
    s.cipherByte rd wr = { (s.storeByte rd wr).nextCounter with phase := .gen } := by
  rw [State.cipherByte_eq, if_pos (.inl h64)]
  exact State.endBlock_of_more h

theorem State.cipherByte_of_inBlock (rd wr : Nat) (hp : s.phase = .xor) (h : s.progress + 1 ≠ s.lMlen)
    (h64 : (s.progress.toNat + 1) % 64 ≠ 0) : s.cipherByte rd wr = s.storeByte rd wr := by
  rw [State.cipherByte_eq, if_neg (not_or.2 ⟨h64, h⟩), ← hp]
  rfl

/-- Whatever follows it, the byte step leaves the memory of `storeByte`. -/
theorem State.cipherByte_mem (s : State) (rd wr : Nat) : (s.cipherByte rd wr).mem = (s.storeByte rd wr).mem := by
  rw [State.cipherByte_eq, State.endBlock]
  split
  · split <;> rfl
  · rfl

/-- Settles O40: the step is `storeByte`, and then the end of the block or of the command. -/
theorem cryptByteStepCiphersOneByte : Obligations.CryptByteStepCiphersOneByte := by
  intro s v hp hb i rd wr hrd hwr hr hw
  have hexec := (exec_crypt_of_xor v hp hb).trans (State.byteStep_of_noFault hrd hwr hr hw)
  refine ⟨_, hexec, ?_, fun a ha => ?_, s.cipherByte_progress _ _, ?_, ?_, ?_⟩
  · rw [State.cipherByte_mem]
    exact Memory.byteAt_write_same ..
  · rw [State.cipherByte_mem]
    exact Memory.byteAt_write_other _ _ ha
  all_goals rw [State.cipherByte_progress]
  · intro hlast h64
    rw [State.cipherByte_of_inBlock _ _ hp hlast h64]
    rfl
  · intro hlast h64
    rw [State.cipherByte_of_blockEnd _ _ hlast h64]
    rfl
  · intro hlast
    rw [State.cipherByte_of_last _ _ hlast]
    rfl

/-! ### The bus-fault abort (42_streamer.md R168) -/

/-- A fault aborts the byte step; the read comes first, so that its fault is the one reported. -/
theorem State.byteStep_of_fault (hrd : s.readAddr < 2 ^ s.cfg.addrWidth) (hwr : s.writeAddr < 2 ^ s.cfg.addrWidth)
    (hf : memFault s.cfg .read s.readAddr = true ∨ memFault s.cfg .write s.writeAddr = true) :
    ∃ d a, s.byteStep = .next (s.busAbort d a) ∧
      (memFault s.cfg .read s.readAddr = true → d = .read ∧ a = s.readAddr) ∧
      (memFault s.cfg .read s.readAddr = false → d = .write ∧ a = s.writeAddr) := by
  cases hr : memFault s.cfg .read s.readAddr with
  | true => exact ⟨.read, s.readAddr, by simp [State.byteStep, inSpace, hrd, hwr, hr], by simp, by simp⟩
  | false =>
    have hw : memFault s.cfg .write s.writeAddr = true := hf.resolve_left (by simp [hr])
    exact ⟨.write, s.writeAddr, by simp [State.byteStep, inSpace, hrd, hwr, hr, hw], by simp, by simp⟩

/-- The abort loses no byte but the cipher bytes from the faulting one on. -/
theorem State.byteAt_busAbort (d : Dir) (b : Nat) {a : Nat}
    (ha : a < s.writeAddr ∨ s.lCiph.toNat + s.lMlen.toNat ≤ a) :
    (s.busAbort d b).mem.byteAt a = s.mem.byteAt a :=
  Memory.byteAt_scramble_other _ _ _ _ (by unfold State.writeAddr at ha; omega)

/-- Settles O41: the step is the abort, which reports the read when that is faulted and else the write. -/
theorem busFaultAbortsCryptPrecisely : Obligations.BusFaultAbortsCryptPrecisely := by
  intro s v hp hb i rd wr hrd hwr hf
  obtain ⟨d, a, hstep, hread, hwrite⟩ := State.byteStep_of_fault hrd hwr hf
  refine ⟨_, (exec_crypt_of_xor v hp hb).trans hstep, rfl, rfl, rfl, rfl, fun h => ?_, fun h => ?_, fun k => ?_,
    rfl, rfl, rfl, fun _ => State.byteAt_busAbort d a, rfl⟩
  · obtain ⟨rfl, rfl⟩ := hread h
    exact ⟨rfl, rfl⟩
  · obtain ⟨rfl, rfl⟩ := hwrite h
    exact ⟨rfl, rfl⟩
  · rw [State.getLsbD_busAbort_valid, decide_not]

/-! ### What can happen while a CRYPT runs -/

/-- The engine steps of CRYPT but the bus-fault abort (42_streamer.md R152, R155, R157). -/
inductive EngineMove (u : State) : State → Prop
  | setup (hp : u.phase = .start) : EngineMove u u.setupStep
  | gen (hp : u.phase = .gen) : EngineMove u u.genStep
  | byte (hp : u.phase = .xor) : EngineMove u (u.cipherByte u.readAddr u.writeAddr)

theorem State.byteStep_cases (h : u.byteStep = .next t) :
    t = u.cipherByte u.readAddr u.writeAddr ∨ ∃ d a, t = u.busAbort d a := by
  unfold State.byteStep at h
  split at h
  · cases h
  split at h
  · cases h; exact .inr ⟨_, _, rfl⟩
  split at h
  · cases h; exact .inr ⟨_, _, rfl⟩
  · cases h; exact .inl rfl

/-- An engine step of CRYPT is one of the moves or the abort. -/
theorem exec_crypt_cases (hp : u.phase ≠ .idle) (h : exec (.crypt v) u = .next t) :
    u.buffersOrdinary = true ∧ (EngineMove u t ∨ u.phase = .xor ∧ ∃ d a, t = u.busAbort d a) := by
  cases hb : u.buffersOrdinary with
  | false => exact absurd ((execCrypt_of_not_ordinary v hp hb).symm.trans h) (by simp)
  | true =>
    refine ⟨rfl, ?_⟩
    cases hq : u.phase with
    | idle => exact absurd hq hp
    | start =>
      rw [exec_crypt_of_start v hq hb] at h
      cases h
      exact .inl (.setup hq)
    | gen =>
      rw [exec_crypt_of_gen v hq hb] at h
      cases h
      exact .inl (.gen hq)
    | xor =>
      rw [exec_crypt_of_xor v hq hb] at h
      rcases State.byteStep_cases h with rfl | habort
      · exact .inl (.byte hq)
      · exact .inr ⟨rfl, habort⟩

/-- `t` follows `u` by the event `e` of the host: the command is left alone, memory changes only where the host writes
and outside the buffers, and a report is made only of a register write. -/
structure HostAct (e : Option Event) (u t : State) : Prop where
  same : SameCommand u t
  buffers : ∀ a, u.races a = true → t.mem.byteAt a = u.mem.byteAt a
  unwritten : ∀ a, (∀ b, e ≠ some (.memWrite a b)) → t.mem.byteAt a = u.mem.byteAt a
  noReport : ¬IsWrite e → t.err = u.err

theorem HostAct.of_mem_eq (h : SameCommand u t) (hm : t.mem = u.mem) (he : ¬IsWrite e → t.err = u.err) :
    HostAct e u t :=
  ⟨h, fun _ _ => by rw [hm], fun _ _ => by rw [hm], he⟩

theorem HostAct.writeByte {a : Nat} {b : Byte} (he : e = some (.memWrite a b)) (hr : u.races a = false) :
    HostAct e u { u with mem := u.mem.write a b } where
  same := rfl
  buffers c hc := Memory.byteAt_write_other _ _ fun h => by simp [h, hr] at hc
  unwritten c hc := Memory.byteAt_write_other _ _ fun h => hc b (h ▸ he)
  noReport _ := rfl

/-- While a CRYPT runs, and but for a reset, the host acts or the engine takes a step of it. -/
theorem Move.crypt_cases (m : Move e u t) (hb : u.busy = true) (ho : u.op = 4) (hp : u.phase ≠ .idle)
    (he : e ≠ some .reset) : HostAct e u t ∨ EngineMove u t ∨ ∃ d a, t = u.busAbort d a := by
  have runs {op : BitVec 4} (h : Runs u op) : op = 4 := (h.resolve_right (by simp [hb])).symm.trans ho
  have idle (h : u.busy = false) : False := by simp [hb] at h
  cases m with
  | stay h | accept _ h => exact absurd h hp
  | nop _ h | build _ h | setCounter _ h | transform _ h => exact absurd (runs h) (by decide)
  | operand _ _ h | stateWord _ _ h | sync h => exact (idle h).elim
  | reset h => exact absurd h he
  | reject _ _ _ _ hw => exact .inl (.of_mem_eq rfl rfl fun h => absurd hw h)
  | answer | answerFree | answerByte | answerFreeByte => exact .inl (.of_mem_eq rfl rfl fun _ => rfl)
  | writeByte a b h _ hr => exact .inl (.writeByte h hr)
  | setup h => exact .inr (.inl (.setup h))
  | gen h => exact .inr (.inl (.gen h))
  | byte h => exact .inr (.inl (.byte h))
  | abort d a => exact .inr (.inr ⟨d, a, rfl⟩)

/-! ### Where a CRYPT stands -/

/-- S for the block `b` of a CRYPT issued in `s` (42_streamer.md R155, R162). -/
def State.blockInput (s : State) (b : Nat) : Block :=
  build s.cfg.keyLayout s.operands.key s.operands.nonce (BitVec.ofNat 64 b)

theorem keystream_eq (s : State) (i : Nat) :
    keystream s i = ksbyte s.cfg.ksByteOrder (salsaCore (s.blockInput (i / 64))) (i % 64) := rfl

/-- The end state of a CRYPT issued in `s` that ends without error, but for memory and the report (42_streamer.md
R163). -/
structure Ended (s u : State) : Prop where
  done : u.done = true
  progress : u.progress = s.operands.mlen
  ctr : u.ctr.toNat = numBlocks s.operands.mlen.toNat
  matrix : u.matrix = s.blockInput (numBlocks s.operands.mlen.toNat)
  svalid : u.svalid = allStateValid
  lastBlock : 1 ≤ numBlocks s.operands.mlen.toNat →
    u.ks = salsaCore (s.blockInput (numBlocks s.operands.mlen.toNat - 1)) ∧ u.valid.getLsbD ksValidBit = true
  noBlock : s.operands.mlen.toNat = 0 → u.ks = s.ks ∧ u.valid = s.valid

/-- Where the CRYPT issued in `s` stands in `u`, by the phase. -/
inductive Stage (s u : State) : Prop
  | start (hp : u.phase = .start) (h0 : u.progress = 0) (hk : u.ks = s.ks) (hv : u.valid = s.valid)
  | gen (hp : u.phase = .gen) (hb : InBlock u) (h64 : u.progress.toNat % 64 = 0)
  | xor (hp : u.phase = .xor) (hb : InBlock u) (hk : u.ks = salsaCore u.matrix)
    (hv : u.valid.getLsbD ksValidBit = true)
  | ended (hp : u.phase = .idle) (he : Ended s u)

/-- The bytes of the message before the offset `progress` are ciphered, and no message byte is overwritten but by these
cipher bytes. -/
structure Ciphered (s u : State) : Prop where
  cipher : ∀ i < u.progress.toNat, u.mem.byteAt (s.operands.ciph.toNat + i) =
    s.mem.byteAt (s.operands.msg.toNat + i) ^^^ keystream s i
  message : ∀ i < s.operands.mlen.toNat,
    (s.operands.msg.toNat + i < s.operands.ciph.toNat ∨
      s.operands.ciph.toNat + u.progress.toNat ≤ s.operands.msg.toNat + i) →
    u.mem.byteAt (s.operands.msg.toNat + i) = s.mem.byteAt (s.operands.msg.toNat + i)

/-- `u` is in the CRYPT issued in `s`, or at its end. -/
structure Underway (s u : State) : Prop where
  cfg : u.cfg = s.cfg
  operands : u.operands = s.operands
  op : u.op = 4
  lMlen : u.lMlen = s.operands.mlen
  lMsg : u.lMsg = s.operands.msg
  lCiph : u.lCiph = s.operands.ciph
  busy : u.busy = true ↔ u.phase ≠ .idle
  stage : Stage s u
  bytes : Ciphered s u

theorem setctr_blockInput (s : State) (b : Nat) (c : DWord) : setctr (s.blockInput b) c = s.blockInput c.toNat := by
  rw [State.blockInput, setctr_build, State.blockInput, BitVec.ofNat_toNat, BitVec.setWidth_eq]

theorem InBlock.toNat_progress_succ (h : InBlock u) : (u.progress + 1).toNat = u.progress.toNat + 1 :=
  BitVec.toNat_add_of_lt (by have := h.more; simp; omega)

theorem InBlock.toNat_ctr_succ (h : InBlock u) : (u.ctr + 1).toNat = u.ctr.toNat + 1 :=
  BitVec.toNat_add_of_lt (by have := h.more; have := h.ctr; simp; omega)

/-- Inside a block, the byte step that does not reach the end of the message has more bytes to do. -/
theorem InBlock.more_of_ne (h : InBlock u) (hne : u.progress + 1 ≠ u.lMlen) :
    (u.progress + 1).toNat < u.lMlen.toNat := by
  have hlt := h.more
  rw [← BitVec.toNat_ne_iff_ne] at hne
  rw [h.toNat_progress_succ] at hne ⊢
  omega

theorem InBlock.nextBlock (h : InBlock u) (hne : u.progress + 1 ≠ u.lMlen) (h64 : (u.progress.toNat + 1) % 64 = 0)
    (rd wr : Nat) : InBlock { (u.storeByte rd wr).nextCounter with phase := .gen } where
  more := h.more_of_ne hne
  ctr := by
    show (u.ctr + 1).toNat = (u.progress + 1).toNat / 64
    rw [h.toNat_ctr_succ, h.toNat_progress_succ, h.ctr]
    omega
  matrix := by
    show setctr u.matrix (u.ctr + 1) = _
    rw [h.matrix]
    rfl
  svalid := h.svalid

theorem InBlock.nextByte (h : InBlock u) (hne : u.progress + 1 ≠ u.lMlen) (h64 : (u.progress.toNat + 1) % 64 ≠ 0)
    (rd wr : Nat) : InBlock (u.storeByte rd wr) where
  more := h.more_of_ne hne
  ctr := by
    show u.ctr.toNat = (u.progress + 1).toNat / 64
    rw [h.toNat_progress_succ, h.ctr]
    omega
  matrix := h.matrix
  svalid := h.svalid

/-- The message byte at `i` is no cipher byte of a smaller offset: the buffers are one or disjoint (42_streamer.md R157;
60_exceptions.md R203, check 8). -/
theorem Ready.message_ahead (h : Ready (.crypt v) s) {i : Nat} (hi : i < s.operands.mlen.toNat) :
    s.operands.msg.toNat + i < s.operands.ciph.toNat ∨ s.operands.ciph.toNat + i ≤ s.operands.msg.toNat + i := by
  by_cases hsame : s.operands.msg = s.operands.ciph
  · exact .inr (by rw [hsame])
  · have hover : overlapCheck s = none := (firstFailure_none _).1 h _ (by simp [checksOf, cryptChecks])
    have hno := (overlapCheck_none s).1 hover hsame (s.operands.msg.toNat + i)
    simp only [Span.has_iff, messageRange, cipherRange] at hno
    omega

namespace Underway

theorem progress_le (h : Underway s u) : u.progress.toNat ≤ s.operands.mlen.toNat := by
  cases h.stage with
  | start _ h0 => simp [h0]
  | gen _ hb | xor _ hb => exact h.lMlen ▸ hb.more.le
  | ended _ he => rw [he.progress]

theorem of_start (h : Underway s u) (hp : u.phase = .start) : u.progress = 0 ∧ u.ks = s.ks ∧ u.valid = s.valid := by
  cases h.stage with
  | start _ h0 hk hv => exact ⟨h0, hk, hv⟩
  | gen hq | xor hq | ended hq => exact absurd (hp.symm.trans hq) (by decide)

theorem of_gen (h : Underway s u) (hp : u.phase = .gen) : InBlock u ∧ u.progress.toNat % 64 = 0 := by
  cases h.stage with
  | gen _ hb h64 => exact ⟨hb, h64⟩
  | start hq | xor hq | ended hq => exact absurd (hp.symm.trans hq) (by decide)

theorem of_xor (h : Underway s u) (hp : u.phase = .xor) :
    InBlock u ∧ u.ks = salsaCore u.matrix ∧ u.valid.getLsbD ksValidBit = true := by
  cases h.stage with
  | xor _ hb hk hv => exact ⟨hb, hk, hv⟩
  | start hq | gen hq | ended hq => exact absurd (hp.symm.trans hq) (by decide)

theorem of_idle (h : Underway s u) (hp : u.phase = .idle) : Ended s u := by
  cases h.stage with
  | ended _ he => exact he
  | start hq | gen hq | xor hq => exact absurd (hp.symm.trans hq) (by decide)

theorem matrix_eq (h : Underway s u) (hb : InBlock u) : u.matrix = s.blockInput u.ctr.toNat := by
  rw [hb.matrix, h.cfg, h.operands, State.blockInput, BitVec.ofNat_toNat, BitVec.setWidth_eq]

/-! ### Acts of the host -/

theorem of_sameCommand (h : Underway s u) {l : List Event} (hst : SameCommand { u with inbox := l } t)
    (hbytes : Ciphered s t) : Underway s t := by
  rw [hst] at hbytes ⊢
  refine { h with bytes := hbytes, stage := ?_ }
  cases h.stage with
  | start hp h0 hk hv => exact .start hp h0 hk hv
  | gen hp hb h64 => exact .gen hp { hb with } h64
  | xor hp hb hk hv => exact .xor hp { hb with } hk hv
  | ended hp he => exact .ended hp { he with }

theorem setInbox (h : Underway s u) (l : List Event) : Underway s { u with inbox := l } :=
  h.of_sameCommand (l := l) rfl { h.bytes with }

/-- The host leaves the buffers and the command alone (20_memory.md R74; 43_control.md R195). -/
theorem hostAct (h : Underway s u) (hb : u.busy = true) (ha : HostAct e u t) : Underway s t := by
  have hrace (a : Nat) (hin :
      s.operands.msg.toNat ≤ a ∧ a < s.operands.msg.toNat + s.operands.mlen.toNat ∨
      s.operands.ciph.toNat ≤ a ∧ a < s.operands.ciph.toNat + s.operands.mlen.toNat) : u.races a = true := by
    rw [u.races_iff, h.lMsg, h.lCiph, h.lMlen]
    exact ⟨⟨hb, h.op⟩, hin⟩
  have hle := h.progress_le
  refine h.of_sameCommand (l := u.inbox) ha.same ⟨fun i hi => ?_, fun i hi hout => ?_⟩
  · rw [ha.same.progress_eq] at hi
    rw [ha.buffers _ (hrace _ (.inr (by omega))), h.bytes.cipher i hi]
  · rw [ha.same.progress_eq] at hout
    rw [ha.buffers _ (hrace _ (.inl (by omega))), h.bytes.message i hi hout]

/-! ### Engine steps -/

theorem setupStep (h : Underway s u) (hp : u.phase = .start) : Underway s u.setupStep := by
  obtain ⟨h0, hk, hv⟩ := h.of_start hp
  have hb := h.busy.2 (by simp [hp])
  have hmat : u.setup.matrix = s.blockInput 0 := by
    show build u.cfg.keyLayout u.operands.key u.operands.nonce 0 = _
    rw [h.cfg, h.operands]
    rfl
  by_cases hlen : u.lMlen = 0
  · have hmlen : s.operands.mlen = 0 := h.lMlen.symm.trans hlen
    rw [State.setupStep_of_empty hlen]
    refine { h with busy := by simp, bytes := { h.bytes with }, stage := .ended rfl ?_ }
    exact ⟨rfl, h0.trans hmlen.symm, by rw [hmlen]; rfl, by rw [hmlen]; exact hmat, rfl, by simp [hmlen, numBlocks],
      fun _ => ⟨hk, hv⟩⟩
  · have hpos : 0 < u.lMlen.toNat := Nat.pos_of_ne_zero fun hz => hlen (BitVec.eq_of_toNat_eq hz)
    rw [State.setupStep_of_nonempty hlen]
    refine { h with
      busy := iff_of_true hb nofun, bytes := { h.bytes with }, stage := .gen rfl ⟨?_, ?_, rfl, rfl⟩ ?_ }
    · simpa [State.setup, State.setMatrix, h0] using hpos
    · simp [State.setup, State.setMatrix, h0]
    · simp [State.setup, State.setMatrix, h0]

theorem genStep (h : Underway s u) (hp : u.phase = .gen) : Underway s u.genStep := by
  obtain ⟨hb, -⟩ := h.of_gen hp
  exact { h with
    busy := iff_of_true (h.busy.2 (by simp [hp])) nofun
    bytes := { h.bytes with }
    stage := .xor rfl { hb with } rfl (getLsbD_setBit_self _ (by decide)) }

/-- The byte step ciphers the message byte that the CRYPT was issued with (42_streamer.md R157, R162). -/
theorem storeByte (h : Underway s u) (hr : Ready (.crypt v) s) (hp : u.phase = .xor) :
    Ciphered s (u.storeByte u.readAddr u.writeAddr) := by
  obtain ⟨hb, hk, -⟩ := h.of_xor hp
  have hlt : u.progress.toNat < s.operands.mlen.toNat := h.lMlen ▸ hb.more
  have hwr : u.writeAddr = s.operands.ciph.toNat + u.progress.toNat := by rw [State.writeAddr, h.lCiph]
  have hrd : u.mem.byteAt u.readAddr = s.mem.byteAt (s.operands.msg.toNat + u.progress.toNat) := by
    rw [State.readAddr, h.lMsg]
    exact h.bytes.message _ hlt (hr.message_ahead hlt)
  have hkey : ksbyte u.cfg.ksByteOrder u.ks (u.progress.toNat % 64) = keystream s u.progress.toNat := by
    rw [keystream_eq, hk, h.matrix_eq hb, hb.ctr, h.cfg]
  have hprog : (u.storeByte u.readAddr u.writeAddr).progress.toNat = u.progress.toNat + 1 := hb.toNat_progress_succ
  have hmem : (u.storeByte u.readAddr u.writeAddr).mem = u.mem.write (s.operands.ciph.toNat + u.progress.toNat)
      (s.mem.byteAt (s.operands.msg.toNat + u.progress.toNat) ^^^ keystream s u.progress.toNat) := by
    rw [← hrd, ← hkey, ← hwr]
    rfl
  refine ⟨fun i hi => ?_, fun i hi hout => ?_⟩ <;> rw [hmem]
  · rw [hprog] at hi
    obtain hi | rfl := Nat.lt_succ_iff_lt_or_eq.1 hi
    · rw [Memory.byteAt_write_other _ _ (by omega), h.bytes.cipher i hi]
    · rw [Memory.byteAt_write_same]
  · rw [hprog] at hout
    rw [Memory.byteAt_write_other _ _ (by omega), h.bytes.message i hi (by omega)]

/-- The byte step of the last byte ends the CRYPT, in the block of that byte (42_streamer.md R158, R163). -/
theorem ended_of_last (h : Underway s u) (hp : u.phase = .xor) (hlast : u.progress + 1 = u.lMlen) (rd wr : Nat) :
    Ended s (u.storeByte rd wr).nextCounter.finish := by
  obtain ⟨hb, hk, hv⟩ := h.of_xor hp
  have hmlen : s.operands.mlen.toNat = u.progress.toNat + 1 := by rw [← h.lMlen, ← hlast, hb.toNat_progress_succ]
  have hblocks : numBlocks s.operands.mlen.toNat = u.ctr.toNat + 1 := by
    have hctr := hb.ctr
    unfold numBlocks
    omega
  refine ⟨rfl, hlast.trans h.lMlen, hb.toNat_ctr_succ.trans hblocks.symm, ?_, hb.svalid, fun _ => ⟨?_, hv⟩,
    fun h0 => by omega⟩
  · show setctr u.matrix (u.ctr + 1) = _
    rw [h.matrix_eq hb, setctr_blockInput, hb.toNat_ctr_succ, hblocks]
  · show u.ks = _
    rw [hk, h.matrix_eq hb, hblocks, Nat.add_sub_cancel]

theorem cipherByte (h : Underway s u) (hr : Ready (.crypt v) s) (hp : u.phase = .xor) :
    Underway s (u.cipherByte u.readAddr u.writeAddr) := by
  obtain ⟨hb, hk, hv⟩ := h.of_xor hp
  have hbytes := h.storeByte hr hp
  by_cases hlast : u.progress + 1 = u.lMlen
  · rw [State.cipherByte_of_last _ _ hlast]
    exact { h with busy := by simp, bytes := { hbytes with }, stage := .ended rfl (h.ended_of_last hp hlast _ _) }
  · by_cases h64 : (u.progress.toNat + 1) % 64 = 0
    · rw [State.cipherByte_of_blockEnd _ _ hlast h64]
      exact { h with
        busy := iff_of_true (h.busy.2 (by simp [hp])) nofun
        bytes := { hbytes with }
        stage := .gen rfl (hb.nextBlock hlast h64 _ _) (hb.toNat_progress_succ ▸ h64) }
    · rw [State.cipherByte_of_inBlock _ _ hp hlast h64]
      exact { h with bytes := hbytes, stage := .xor hp (hb.nextByte hlast h64 _ _) hk hv }

theorem engineMove (h : Underway s u) (hr : Ready (.crypt v) s) (m : EngineMove u t) : Underway s t := by
  cases m with
  | setup hp => exact h.setupStep hp
  | gen hp => exact h.genStep hp
  | byte hp => exact h.cipherByte hr hp

end Underway

/-! ### The bound of the counter (42_streamer.md R159) -/

theorem InBlock.ctr_lt (h : InBlock s) : s.ctr.toNat < 2 ^ 58 := by
  have hp := s.progress.isLt
  rw [h.ctr]
  omega

/-- The end of a block adds one to the counter, and no other step changes it after the setup. -/
theorem EngineMove.ctr_eq (m : EngineMove u t) (hp : u.phase ≠ .start) : t.ctr = u.ctr ∨ t.ctr = u.ctr + 1 := by
  cases m with
  | setup h => exact absurd h hp
  | gen => exact .inl rfl
  | byte =>
    rw [State.cipherByte_eq, State.endBlock]
    split
    · split <;> exact .inr rfl
    · exact .inl rfl

/-- Settles O48: inside a block the counter is `progress / 64`, and a step adds at most one. -/
theorem counterNeverPassesItsBound : Obligations.CounterNeverPassesItsBound := by
  intro s v h hp
  have hb : InBlock s := hp.elim (fun hg => (h.blockStart hg).1) (fun hx => (h.inBlock hx).1)
  have hlt := hb.ctr_lt
  have hidle : s.phase ≠ .idle := by rcases hp with hp | hp <;> simp [hp]
  have hstart : s.phase ≠ .start := by rcases hp with hp | hp <;> simp [hp]
  refine ⟨hlt, fun t ht hsv => ?_⟩
  obtain ⟨-, m | ⟨-, d, a, rfl⟩⟩ := exec_crypt_cases hidle ht
  · rcases m.ctr_eq hstart with hc | hc
    · rw [hc]; exact hlt.le
    · rw [hc, hb.toNat_ctr_succ]; exact hlt
  · exact absurd (show (0 : Word) = 0x0000FFFF from hsv) (by decide)

/-! ### The issue of a CRYPT (43_control.md R183, R184) -/

/-- The block after the accept of CRYPT. -/
def State.issued (s : State) (v : Nat) : State := (s.accept (encode (.crypt v))).latchCrypt

theorem Ready.variant_lt (h : Ready (.crypt v) s) : v < 4 :=
  (variantCheck_none v).1 ((firstFailure_none _).1 h _ (by simp [checksOf, cryptChecks]))

theorem Ready.decode_crypt (h : Ready (.crypt v) s) : decode (encode (.crypt v)) = some (.crypt v) :=
  decode_encode (decide_eq_true (Nat.lt_trans h.variant_lt (by decide)))

theorem CanIssue.step_withIssue (h : CanIssue (.crypt v) s) :
    step (s.withIssue (encode (.crypt v))) = .next (s.issued v) :=
  (Machine.step_withIssue h.notBusy _).trans (issueWord_accept h.idle h.ready h.ready.decode_crypt)

/-- The accept leaves the CRYPT at its setup step, with no byte ciphered. -/
theorem underway_issued (s : State) (v : Nat) (l : List Event) : Underway s (State.issued { s with inbox := l } v) where
  cfg := rfl
  operands := rfl
  op := opField_encode _
  lMlen := rfl
  lMsg := rfl
  lCiph := rfl
  busy := iff_of_true rfl nofun
  stage := .start rfl rfl rfl rfl
  bytes := ⟨fun i hi => absurd hi (Nat.not_lt_zero i), fun _ _ _ => rfl⟩

/-! ### What the engine leaves alone -/

/-- The engine has not touched the host's side, the report and the bytes outside the cipher range of the CRYPT issued
in `s`. -/
structure EngineKeeps (s u t : State) : Prop where
  inbox : t.inbox = u.inbox
  err : t.err = u.err
  outside : ∀ a, (a < s.operands.ciph.toNat ∨ s.operands.ciph.toNat + s.operands.mlen.toNat ≤ a) →
    t.mem.byteAt a = u.mem.byteAt a

theorem EngineKeeps.refl (s u : State) : EngineKeeps s u u := ⟨rfl, rfl, fun _ _ => rfl⟩

theorem EngineKeeps.trans {w : State} (h : EngineKeeps s u t) (h' : EngineKeeps s t w) : EngineKeeps s u w :=
  ⟨h'.inbox.trans h.inbox, h'.err.trans h.err, fun a ha => (h'.outside a ha).trans (h.outside a ha)⟩

theorem Underway.engineKeeps (h : Underway s u) (m : EngineMove u t) : EngineKeeps s u t := by
  cases m with
  | setup => rw [u.setupStep_frame]; exact ⟨rfl, rfl, fun _ _ => rfl⟩
  | gen => exact ⟨rfl, rfl, fun _ _ => rfl⟩
  | byte hp =>
    have hmore := (h.of_xor hp).1.more
    have hmem (a : Nat) (ha : a ≠ u.writeAddr) :
        (u.cipherByte u.readAddr u.writeAddr).mem.byteAt a = u.mem.byteAt a := by
      rw [State.cipherByte_mem]
      exact Memory.byteAt_write_other _ _ ha
    rw [h.lMlen] at hmore
    refine ⟨?_, ?_, fun a ha => hmem a (by rw [State.writeAddr, h.lCiph]; omega)⟩ <;> rw [State.cipherByte_frame]

/-! ### A CRYPT left to the engine (42_streamer.md R173) -/

/-- The engine steps that a CRYPT still takes: for the setup, for each block and for each byte. -/
def State.stepsLeft (u : State) : Nat :=
  match u.phase with
  | .idle => 0
  | .start => cryptSteps u.lMlen.toNat
  | .gen => numBlocks u.lMlen.toNat - u.ctr.toNat + (u.lMlen.toNat - u.progress.toNat)
  | .xor => numBlocks u.lMlen.toNat - (u.ctr.toNat + 1) + (u.lMlen.toNat - u.progress.toNat)

theorem Underway.stepsLeft_engineMove (h : Underway s u) (m : EngineMove u t) : t.stepsLeft + 1 = u.stepsLeft := by
  cases m with
  | setup hp =>
    obtain ⟨h0, -, -⟩ := h.of_start hp
    have hprog : u.progress.toNat = 0 := by rw [h0]; rfl
    by_cases hlen : u.lMlen = 0
    · rw [State.setupStep_of_empty hlen]
      simp [State.stepsLeft, hp, hlen, cryptSteps, numBlocks]
    · rw [State.setupStep_of_nonempty hlen]
      show numBlocks u.lMlen.toNat - 0 + (u.lMlen.toNat - u.progress.toNat) + 1 = u.stepsLeft
      simp only [State.stepsLeft, hp, hprog, cryptSteps]
      omega
  | gen hp =>
    obtain ⟨hb, -⟩ := h.of_gen hp
    have hmore := hb.more
    have hctr := hb.ctr
    simp only [State.stepsLeft, hp, State.genStep, State.setKs, numBlocks]
    omega
  | byte hp =>
    obtain ⟨hb, -, -⟩ := h.of_xor hp
    have hmore := hb.more
    have hctr := hb.ctr
    have hprog := hb.toNat_progress_succ
    by_cases hlast : u.progress + 1 = u.lMlen
    · rw [State.cipherByte_of_last _ _ hlast]
      simp only [State.stepsLeft, hp, State.finish_phase, ← hlast, hprog, numBlocks]
      omega
    · by_cases h64 : (u.progress.toNat + 1) % 64 = 0
      · rw [State.cipherByte_of_blockEnd _ _ hlast h64]
        simp only [State.stepsLeft, hp, State.nextCounter, State.storeByte, hb.toNat_ctr_succ, hprog]
        omega
      · rw [State.cipherByte_of_inBlock _ _ hp hlast h64]
        simp only [State.stepsLeft, hp, State.storeByte, hprog]
        omega

theorem Underway.busy_iff_stepsLeft (h : Underway s u) : u.busy = true ↔ 0 < u.stepsLeft := by
  rw [h.busy]
  cases h.stage with
  | start hp => simp [State.stepsLeft, hp, cryptSteps]
  | gen hp hb | xor hp hb =>
    have hmore := hb.more
    simp only [State.stepsLeft, hp, ne_eq, reduceCtorEq, not_false_eq_true, true_iff]
    omega
  | ended hp => simp [State.stepsLeft, hp]

/-- An accepted CRYPT reads inside the data address space (60_exceptions.md R203, check 7). -/
theorem Ready.message_le (h : Ready (.crypt v) s) :
    s.operands.msg.toNat + s.operands.mlen.toNat ≤ 2 ^ s.cfg.addrWidth := by
  have hr : rangeCheck s = none := (firstFailure_none _).1 h _ (by simp [checksOf, cryptChecks])
  exact ((rangeCheck_none s).1 hr).1

theorem step_crypt_of_quiet (hq : u.inbox = []) (ho : u.op = 4) (hp : u.phase ≠ .idle) :
    step u = exec (.crypt u.var.toNat) u := by
  have hc : commandOf u.op u.var = some (.crypt u.var.toNat) := by rw [ho]; rfl
  simp only [step, takeTurn, hq, engineTurn, if_neg hp, hc]

/-- Over usable buffers no engine step of an accepted CRYPT stops or aborts. -/
theorem Underway.exists_engineMove (h : Underway s u) (hr : Ready (.crypt v) s) (hu : BuffersUsable s)
    (hq : u.inbox = []) (hp : u.phase ≠ .idle) : ∃ t, step u = .next t ∧ EngineMove u t := by
  have hord : u.buffersOrdinary = true := by
    rw [State.buffersOrdinary, State.msgRange, State.ciphRange, h.cfg, h.lMsg, h.lCiph, h.lMlen, hu.message, hu.cipher]
    rfl
  rw [step_crypt_of_quiet hq h.op hp]
  cases hphase : u.phase with
  | idle => exact absurd hphase hp
  | start => exact ⟨_, exec_crypt_of_start _ hphase hord, .setup hphase⟩
  | gen => exact ⟨_, exec_crypt_of_gen _ hphase hord, .gen hphase⟩
  | xor =>
    have hlt : u.progress.toNat < s.operands.mlen.toNat := h.lMlen ▸ (h.of_xor hphase).1.more
    have hrd := hr.message_le
    have hwr := hr.cipher_le
    refine ⟨_, (exec_crypt_of_xor _ hphase hord).trans (State.byteStep_of_noFault ?_ ?_ ?_ ?_), .byte hphase⟩
    · rw [State.readAddr, h.lMsg, h.cfg]; omega
    · rw [State.writeAddr, h.lCiph, h.cfg]; omega
    · rw [State.readAddr, h.lMsg, h.cfg]; exact hu.read _ hlt
    · rw [State.writeAddr, h.lCiph, h.cfg]; exact hu.write _ hlt

/-- As long as steps are left, the engine takes them. -/
theorem Underway.run_engine (h : Underway s u) (hr : Ready (.crypt v) s) (hu : BuffersUsable s) (hq : u.inbox = [])
    {k : Nat} (hk : k ≤ u.stepsLeft) :
    ∃ t, run k u = .next t ∧ Underway s t ∧ EngineKeeps s u t ∧ t.stepsLeft + k = u.stepsLeft := by
  induction k generalizing u with
  | zero => exact ⟨u, rfl, h, .refl s u, rfl⟩
  | succ k ih =>
    have hp := h.busy.1 (h.busy_iff_stepsLeft.2 (by omega))
    obtain ⟨w, hstep, m⟩ := h.exists_engineMove hr hu hq hp
    have hleft := h.stepsLeft_engineMove m
    have hkeep := h.engineKeeps m
    obtain ⟨t, hrun, ht, hkeep', hleft'⟩ := ih (h.engineMove hr m) (hkeep.inbox.trans hq) (by omega)
    exact ⟨t, (run_succ_of_step hstep).trans hrun, ht, hkeep.trans hkeep', by omega⟩

theorem CanIssue.run_crypt (h : CanIssue (.crypt v) s) (hu : BuffersUsable s) {k : Nat}
    (hk : k ≤ cryptSteps s.operands.mlen.toNat) :
    ∃ t, run (1 + k) (s.withIssue (encode (.crypt v))) = .next t ∧ Underway s t ∧ EngineKeeps s (s.issued v) t ∧
      t.stepsLeft + k = cryptSteps s.operands.mlen.toNat := by
  rw [Nat.add_comm, run_succ_of_step h.step_withIssue]
  exact (underway_issued s v s.inbox).run_engine h.ready hu h.quiet hk

/-- The end of a CRYPT left to the engine. -/
theorem CanIssue.crypt_ends (h : CanIssue (.crypt v) s) (hu : BuffersUsable s) :
    ∃ t, CryptEndsIn v s t ∧ Underway s t ∧ EngineKeeps s (s.issued v) t ∧ t.phase = .idle := by
  obtain ⟨t, hrun, ht, hkeep, hleft⟩ := h.run_crypt hu le_rfl
  refine ⟨t, hrun, ht, hkeep, ?_⟩
  by_contra hp
  have := ht.busy_iff_stepsLeft.1 (ht.busy.2 hp)
  omega

theorem Underway.not_busy (h : Underway s u) (hp : u.phase = .idle) : u.busy = false := by
  rw [← Bool.not_eq_true, h.busy]
  exact not_not.2 hp

/-- The closed form of a finished CRYPT (42_streamer.md R162). -/
theorem Underway.closed_form (h : Underway s u) (hp : u.phase = .idle) (i : Nat) (hi : i < s.operands.mlen.toNat) :
    u.mem.byteAt (s.operands.ciph.toNat + i) = s.mem.byteAt (s.operands.msg.toNat + i) ^^^ keystream s i :=
  h.bytes.cipher i (by rwa [(h.of_idle hp).progress])

/-- Settles O43: the engine runs to the end of the CRYPT, where every byte of the message is done. -/
theorem cryptCiphersTheMessage : Obligations.CryptCiphersTheMessage := by
  intro s v h hu
  obtain ⟨t, hend, ht, hkeep, hp⟩ := h.crypt_ends hu
  exact ⟨t, hend, ht.closed_form hp, hkeep.outside, ht.not_busy hp, (ht.of_idle hp).done, hkeep.err, ht.operands,
    hkeep.inbox.trans h.quiet⟩

/-- Settles O45: of `cryptSteps` steps, one is taken at a time, and the block is BUSY as long as any is left. -/
theorem cryptTakesItsStepCount : Obligations.CryptTakesItsStepCount := by
  intro s v h hu
  refine ⟨fun k hk => ?_, ?_⟩
  · change k < cryptSteps s.operands.mlen.toNat at hk
    obtain ⟨u, hrun, hun, -, hleft⟩ := h.run_crypt hu hk.le
    exact ⟨u, hrun, hun.busy_iff_stepsLeft.2 (by omega)⟩
  · obtain ⟨t, hend, ht, hkeep, hp⟩ := h.crypt_ends hu
    exact ⟨t, hend, ht.not_busy hp, (ht.of_idle hp).done, hkeep.err⟩

/-- The keystream is a function of the layout, the byte order, the key and the nonce. -/
theorem keystream_congr (hl : u.cfg.keyLayout = s.cfg.keyLayout) (ho : u.cfg.ksByteOrder = s.cfg.ksByteOrder)
    (hk : u.operands.key = s.operands.key) (hn : u.operands.nonce = s.operands.nonce) (i : Nat) :
    keystream u i = keystream s i := by
  unfold keystream
  rw [hl, ho, hk, hn]

theorem CryptEndsIn.unique (h : CryptEndsIn v s t) (h' : CryptEndsIn v s u) : t = u := by
  unfold CryptEndsIn at h h'
  rw [h] at h'
  exact Host.Outcome.next.inj h'

/-- Settles O46: the two keystreams are one, and the second XOR undoes the first. -/
theorem cryptTwiceReturnsTheMessage : Obligations.CryptTwiceReturnsTheMessage := by
  intro s t u v v' hs hus hend hu huu hlayout horder hkey hnonce hmlen hmsg
  obtain ⟨t', hend', ht, -, hp⟩ := hs.crypt_ends hus
  obtain rfl := hend'.unique hend
  obtain ⟨w, hendw, hw, -, hpw⟩ := hu.crypt_ends huu
  refine ⟨w, hendw, fun i hi => ?_⟩
  have hiu : i < u.operands.mlen.toNat := by rwa [hmlen]
  calc w.mem.byteAt (u.operands.ciph.toNat + i)
    _ = s.mem.byteAt (s.operands.msg.toNat + i) ^^^ keystream s i ^^^ keystream u i := by
      rw [hw.closed_form hpw i hiu, hmsg i hi, ht.closed_form hp i hi]
    _ = s.mem.byteAt (s.operands.msg.toNat + i) ^^^ keystream s i ^^^ keystream s i := by
      rw [keystream_congr hlayout horder hkey hnonce]
    _ = s.mem.byteAt (s.operands.msg.toNat + i) := by rw [BitVec.xor_assoc, BitVec.xor_self, BitVec.xor_zero]

/-! ### A CRYPT under any interleaving (42_streamer.md R162, R163) -/

/-- One more step at the end of a run. -/
theorem run_succ_eq_next {k : Nat} : run (k + 1) s = .next t ↔ ∃ u, run k s = .next u ∧ step u = .next t := by
  induction k generalizing s with
  | zero => cases hs : step s <;> simp [run, hs]
  | succ k ih =>
    rw [run]
    conv_rhs => rw [run]
    cases step s <;> simp [ih]

/-- Every earlier step of a run gives a state. -/
theorem exists_run_of_le {k : Nat} (h : run n s = .next t) (hk : k ≤ n) : ∃ u, run k s = .next u := by
  induction hk using Nat.decreasingInduction with
  | self => exact ⟨t, h⟩
  | of_succ k _ ih =>
    obtain ⟨u, hu⟩ := ih
    obtain ⟨w, hw, -⟩ := run_succ_eq_next.1 hu
    exact ⟨w, hw⟩

section Runs

variable (h : CryptRuns v n s t)
include h

theorem CryptRuns.exists_issued : ∃ l, step s = .next (State.issued { s with inbox := l } v) := by
  obtain ⟨l, hl⟩ := h.issued
  exact ⟨l, step_accept h.idle h.notBusy h.ready hl h.ready.decode_crypt⟩

/-- A step of the run leaves the CRYPT under way, or it is an abort. -/
theorem CryptRuns.step_cases {k : Nat} {w : State} (h0 : 0 < k) (hk : k < n) (hrun : run k s = .next u)
    (hu : Underway s u) (hst : step u = .next w) :
    (HostAct u.inbox.head? { u with inbox := u.inbox.tail } w ∨ EngineMove { u with inbox := u.inbox.tail } w) ∨
      w.busy = false ∧ w.errCode = .bus := by
  have hb : u.busy = true := h.busy k u h0 hk hrun
  have hreset : u.inbox.head? ≠ some .reset := fun hr =>
    h.noReset k u u.inbox.tail hk hrun (List.cons_head?_tail hr).symm
  rcases (step_move hst).crypt_cases hb hu.op (hu.busy.1 hb) hreset with ha | m | ⟨d, a, rfl⟩
  · exact .inl (.inl ha)
  · exact .inl (.inr m)
  · exact .inr ⟨rfl, rfl⟩

/-- What holds after the issue of a CRYPT and is kept by the acts of the host and the steps of the engine holds at its
end, unless it is aborted. -/
theorem CryptRuns.induction {P : State → Prop} (hbus : t.errCode ≠ .bus)
    (issued : ∀ l, P (State.issued { s with inbox := l } v))
    (host : ∀ k u w, 0 < k → k < n → run k s = .next u → P u →
      HostAct u.inbox.head? { u with inbox := u.inbox.tail } w → P w)
    (engine : ∀ u w, Underway s u → P u → EngineMove { u with inbox := u.inbox.tail } w → P w) :
    Underway s t ∧ P t := by
  have main (k : Nat) : 0 < k → k ≤ n → ∀ u, run k s = .next u → (k = n → u.errCode ≠ .bus) → Underway s u ∧ P u := by
    intro h0
    induction k, h0 using Nat.le_induction with
    | base =>
      intro _ u hrun _
      obtain ⟨l, hl⟩ := h.exists_issued
      obtain rfl := Host.Outcome.next.inj ((run_succ_of_step (n := 0) hl).symm.trans hrun)
      exact ⟨underway_issued s v l, issued l⟩
    | succ k h0 ih =>
      intro hk w hrun hnobus
      obtain ⟨u, hu, hst⟩ := run_succ_eq_next.1 hrun
      obtain ⟨hun, hP⟩ := ih (by omega) u hu (by omega)
      have hbusy := h.busy k u h0 hk hu
      rcases h.step_cases h0 hk hu hun hst with (ha | m) | ⟨hidle, hcode⟩
      · exact ⟨(hun.setInbox u.inbox.tail).hostAct hbusy ha, host k u w h0 hk hu hP ha⟩
      · exact ⟨(hun.setInbox _).engineMove h.ready m, engine u w hun hP m⟩
      · have hlast : k + 1 = n := by
          by_contra hne
          exact absurd (h.busy (k + 1) w (by omega) (by omega) hrun) (by simp [hidle])
        exact absurd hcode (hnobus hlast)
  exact main n h.takesSteps le_rfl t h.ends fun _ => hbus

/-- A byte outside the cipher range changes only by a write of the host. -/
theorem CryptRuns.byteAt_outside (hbus : t.errCode ≠ .bus) {a : Nat}
    (ha : a < s.operands.ciph.toNat ∨ s.operands.ciph.toNat + s.operands.mlen.toNat ≤ a)
    (hw : ∀ k u b rest, k < n → run k s = .next u → u.inbox ≠ .memWrite a b :: rest) :
    t.mem.byteAt a = s.mem.byteAt a := by
  refine (h.induction (P := fun u => u.mem.byteAt a = s.mem.byteAt a) hbus (fun _ => rfl) ?_ ?_).2
  · intro k u w _ hk hrun hP act
    refine (act.unwritten a fun b hb => ?_).trans hP
    exact hw k u b u.inbox.tail hk hrun (List.cons_head?_tail hb).symm
  · exact fun u w hun hP m => (((hun.setInbox _).engineKeeps m).outside a ha).trans hP

/-- A report is made only of a register write, which a BUSY block rejects. -/
theorem CryptRuns.err_eq_false (hbus : t.errCode ≠ .bus)
    (hw : ∀ k u addr x w rest, 0 < k → k < n → run k s = .next u → u.inbox ≠ .busWrite addr x w :: rest) :
    t.err = false := by
  refine (h.induction (P := fun u => u.err = false) hbus (fun _ => rfl) ?_ ?_).2
  · intro k u w h0 hk hrun hP act
    refine (act.noReport fun ⟨addr, x, d, hd⟩ => ?_).trans hP
    exact hw k u addr x d u.inbox.tail h0 hk hrun (List.cons_head?_tail hd).symm
  · exact fun u w hun hP m => ((hun.setInbox _).engineKeeps m).err.trans hP

/-- A CRYPT that is not aborted is under way until it has ended. -/
theorem CryptRuns.underway (hbus : t.errCode ≠ .bus) : Underway s t :=
  (h.induction (P := fun _ => True) hbus (fun _ => trivial) (fun _ _ _ _ _ _ _ _ => trivial)
    (fun _ _ _ _ _ => trivial)).1

end Runs

/-- Settles O44: the CRYPT is under way after each step until it has ended, and the frame is read off the steps. -/
theorem cryptEndStateUnderAnyInterleaving : Obligations.CryptEndStateUnderAnyInterleaving := by
  intro s t v n h hbus len msg ciph built
  have ht := h.underway hbus
  have hp : t.phase = .idle := by
    by_contra hp
    exact absurd (ht.busy.2 hp) (by simp [h.ended])
  obtain ⟨hdone, hprog, hctr, hmat, hsv, hlast, hnone⟩ := ht.of_idle hp
  refine ⟨ht.closed_form hp, hprog, hctr, hmat, hsv, hlast, hnone, fun a => h.byteAt_outside hbus, fun i hi hout => ?_,
    hdone, ht.operands, h.err_eq_false hbus⟩
  exact ht.bytes.message i hi (by rwa [hprog])

/-! ### The variant of a CRYPT (42_streamer.md R165; 41_core_transform.md R136) -/

/-- The same block with another variant issued. -/
def State.asVariant (v : Nat) (u : State) : State := { u with ctrl := encode (.crypt v), var := BitVec.ofNat 8 v }

/-- The outcome with `f` applied to the next state. -/
def onNext (f : State → State) : Host.Outcome State Fault Refusal → Host.Outcome State Fault Refusal
  | .next t => .next (f t)
  | .fault r => .fault r
  | .refused r => .refused r

theorem setupStep_asVariant (v : Nat) (u : State) : (u.asVariant v).setupStep = u.setupStep.asVariant v := by
  rw [State.setupStep, State.setupStep, apply_ite (State.asVariant v)]
  rfl

theorem endBlock_asVariant (v : Nat) (u : State) : (u.asVariant v).endBlock = u.endBlock.asVariant v := by
  rw [State.endBlock, State.endBlock, apply_ite (State.asVariant v)]
  rfl

theorem cipherByte_asVariant (v : Nat) (u : State) (rd wr : Nat) :
    (u.asVariant v).cipherByte rd wr = (u.cipherByte rd wr).asVariant v := by
  rw [State.cipherByte_eq, State.cipherByte_eq, apply_ite (State.asVariant v), ← endBlock_asVariant]
  rfl

theorem byteStep_asVariant (v : Nat) (u : State) :
    (u.asVariant v).byteStep = onNext (State.asVariant v) u.byteStep := by
  rw [State.byteStep, State.byteStep, cipherByte_asVariant]
  simp only [apply_ite (onNext (State.asVariant v))]
  rfl

theorem whenOrdinary_asVariant (v : Nat) (u : State) (o : Host.Outcome State Fault Refusal) :
    (u.asVariant v).whenOrdinary (onNext (State.asVariant v) o) = onNext (State.asVariant v) (u.whenOrdinary o) := by
  rw [State.whenOrdinary, State.whenOrdinary, apply_ite (onNext (State.asVariant v))]
  rfl

/-- No engine step of CRYPT depends on the variant. -/
theorem exec_crypt_asVariant (v x y : Nat) (hp : u.phase ≠ .idle) :
    exec (.crypt y) (u.asVariant v) = onNext (State.asVariant v) (exec (.crypt x) u) := by
  have hphase : (u.asVariant v).phase = u.phase := rfl
  cases hq : u.phase with
  | idle => exact absurd hq hp
  | start =>
    simp only [exec, execCrypt, hphase, hq, ← whenOrdinary_asVariant, setupStep_asVariant]
    rfl
  | gen =>
    simp only [exec, execCrypt, hphase, hq, ← whenOrdinary_asVariant]
    rfl
  | xor => simp only [exec, execCrypt, hphase, hq, ← whenOrdinary_asVariant, byteStep_asVariant]

theorem step_idle_of_quiet (hq : u.inbox = []) (hp : u.phase = .idle) : step u = .next u := by
  simp only [step, takeTurn, hq, engineTurn, if_pos hp]

theorem step_asVariant (v : Nat) (hq : u.inbox = []) (ho : u.op = 4) :
    step (u.asVariant v) = onNext (State.asVariant v) (step u) := by
  by_cases hp : u.phase = .idle
  · rw [step_idle_of_quiet hq hp, step_idle_of_quiet (u := u.asVariant v) hq hp]
    rfl
  · rw [step_crypt_of_quiet hq ho hp, step_crypt_of_quiet (u := u.asVariant v) hq ho hp]
    exact exec_crypt_asVariant v _ _ hp

theorem EngineMove.inbox_op_eq (m : EngineMove u t) : t.inbox = u.inbox ∧ t.op = u.op := by
  cases m with
  | setup => rw [u.setupStep_frame]; exact ⟨rfl, rfl⟩
  | gen => exact ⟨rfl, rfl⟩
  | byte => rw [State.cipherByte_frame]; exact ⟨rfl, rfl⟩

/-- A turn of the engine leaves the inbox and the opcode of a CRYPT. -/
theorem step_inbox_op_eq (hq : u.inbox = []) (ho : u.op = 4) (h : step u = .next t) :
    t.inbox = u.inbox ∧ t.op = u.op := by
  by_cases hp : u.phase = .idle
  · rw [step_idle_of_quiet hq hp] at h
    cases h
    exact ⟨rfl, rfl⟩
  · rw [step_crypt_of_quiet hq ho hp] at h
    obtain ⟨-, m | ⟨-, d, a, rfl⟩⟩ := exec_crypt_cases hp h
    · exact m.inbox_op_eq
    · exact ⟨rfl, rfl⟩

theorem run_asVariant (v : Nat) (hq : u.inbox = []) (ho : u.op = 4) (h : run n u = .next t) :
    run n (u.asVariant v) = .next (t.asVariant v) := by
  induction n generalizing u with
  | zero => cases h; rfl
  | succ n ih =>
    cases hst : step u with
    | next w =>
      obtain ⟨hin, hop⟩ := step_inbox_op_eq hq ho hst
      rw [run_succ_of_step hst] at h
      rw [run_succ_of_step ((step_asVariant v hq ho).trans (by rw [hst]; rfl))]
      exact ih (hin.trans hq) (hop.trans ho) h
    | fault r | refused r => simp [run, hst] at h

theorem issued_asVariant (v v' : Nat) (s : State) : s.issued v' = (s.issued v).asVariant v' := by
  simp only [State.issued, State.accept, State.latchCrypt, State.asVariant, opField_encode, varField_encode]
  rfl

theorem CanIssue.of_variant {v' : Nat} (h : CanIssue (.crypt v) s) (hv : v' < 4) : CanIssue (.crypt v') s where
  idle := h.idle
  notBusy := h.notBusy
  quiet := h.quiet
  ready := by
    have hr := h.ready
    simp only [Ready, firstFailure_none, checksOf, cryptChecks, List.forall_mem_cons, variantCheck_none] at hr ⊢
    obtain ⟨-, hrest⟩ := hr
    exact ⟨hv, hrest⟩

/-- Settles O47: the accepted blocks differ in CTRL and var alone, which no engine step reads. -/
theorem cryptDoesNotDependOnTheVariant : Obligations.CryptDoesNotDependOnTheVariant := by
  intro s t v v' h hv hend
  rw [CryptEndsIn, Nat.add_comm, run_succ_of_step h.step_withIssue] at hend
  rw [CryptEndsIn, Nat.add_comm, run_succ_of_step (h.of_variant hv).step_withIssue, issued_asVariant v]
  exact run_asVariant v' h.quiet (opField_encode _) hend

end StreamerProofs

end Sys2Proof.Machine

/-! PROOF. The statements about one step of the block (43_control.md): what the host's access to each offset of the
window does, and what the accept of a command and the engine's turn run. -/

namespace Sys2Proof.Machine

section ControlProofs

variable {s t : State} {i : Instr} {w : Word} {off : Nat} {v : Word} {rest : List Event}

/-! ### The read-only and reserved offsets of the window (10_state.md R22) -/

/-- The offsets from 0x088 on are no operand register. -/
theorem OperandReg.ofSlot_eq_none {k : Nat} (h : 18 ≤ k) : OperandReg.ofSlot k = none := by
  rw [OperandReg.ofSlot, dif_neg (by omega)]
  split
  case h_11 => rfl
  all_goals omega

theorem regOf_eq_reserved
    (h : 0x028 ≤ off ∧ off ≤ 0x03C ∨ 0x088 ≤ off ∧ off ≤ 0x0BC ∨ 0x140 ≤ off) : regOf off = .reserved := by
  have hslot : off / 4 < 0x10 ∨ (¬off / 4 < 0x10 ∧ off / 4 < 0x30 ∧ 18 ≤ off / 4 - 0x10) ∨
      (¬off / 4 < 0x10 ∧ ¬off / 4 < 0x30 ∧ ¬off / 4 < 0x40 ∧ ¬off / 4 < 0x50) := by omega
  unfold regOf
  split
  case h_11 =>
    rcases hslot with h10 | ⟨h10, h30, hk⟩ | ⟨h10, h30, h40, h50⟩
    · rw [if_pos h10]
    · rw [if_neg h10, if_pos h30, OperandReg.ofSlot_eq_none hk]
      rfl
    · rw [if_neg h10, if_neg h30, if_neg h40, if_neg h50]
  all_goals omega

/-- Whether a block that is not BUSY takes a host write to the register (43_control.md R180, R192, R193). -/
def Reg.Writable : Reg → Prop
  | .ctrl => True
  | .operand _ => True
  | .state _ => True
  | _ => False

theorem not_writable_regOf
    (h : 0x004 ≤ off ∧ off ≤ 0x03C ∨ 0x088 ≤ off ∧ off ≤ 0x0BC ∨ 0x100 ≤ off) : ¬(regOf off).Writable := by
  have hslot : off / 4 < 0x10 ∨ (¬off / 4 < 0x10 ∧ off / 4 < 0x30 ∧ 18 ≤ off / 4 - 0x10) ∨
      (¬off / 4 < 0x10 ∧ ¬off / 4 < 0x30 ∧ ¬off / 4 < 0x40) := by omega
  unfold regOf
  split
  case h_1 => omega
  case h_11 =>
    rcases hslot with h10 | ⟨h10, h30, hk⟩ | ⟨h10, h30, h40⟩
    · rw [if_pos h10]
      exact id
    · rw [if_neg h10, if_pos h30, OperandReg.ofSlot_eq_none hk]
      exact id
    · rw [if_neg h10, if_neg h30, if_neg h40]
      split <;> exact id
  all_goals exact id

/-! ### Host writes (43_control.md R192 to R195) -/

theorem hostWrite_operand (r : OperandReg) (v : Word) (hb : s.busy = false) :
    hostWrite (operandOffset r) v s = .next (s.writeOperand r v) := by
  simp only [hostWrite, hb, Bool.false_eq_true, if_false, regOf_operandOffset]

theorem hostWrite_state (i : Fin 16) (v : Word) (hb : s.busy = false) :
    hostWrite (0x0C0 + 4 * i.val) v s = .next (s.writeStateWord i v) := by
  simp only [hostWrite, hb, Bool.false_eq_true, if_false, regOf_state]

theorem hostWrite_of_not_writable (v : Word) (hb : s.busy = false) (h : ¬(regOf off).Writable) :
    hostWrite off v s = .next (s.report .register (BitVec.ofNat 32 off)) := by
  rw [hostWrite, if_neg (by simp [hb])]
  split
  case h_4 => rfl
  all_goals
    next hreg =>
      rw [hreg] at h
      exact absurd trivial h

/-- A write to an operand register is seen in that register alone. -/
theorem Operands.get_set (o : Operands) (r q : OperandReg) (v : Word) :
    (o.set r v).get q = if q = r then v else o.get q := by
  cases r with
  | key i =>
    cases q with
    | key j =>
      simp only [Operands.set, Operands.get, Fin.getElem_fin, Vector.getElem_set, OperandReg.key.injEq, Fin.ext_iff,
        eq_comm]
    | _ => rfl
  | _ => cases q <;> rfl

/-- Settles O10: a BUSY block reports the write, whatever its offset. -/
theorem writeWhileBusyIsRejected : Obligations.WriteWhileBusyIsRejected :=
  fun s off v rest h hb => (step_of_nextWrite h).trans (hostWrite_of_busy (s := { s with inbox := rest }) off v hb)

/-- Settles O11: the step is `writeOperand`, and the slot of the register is the number of its valid bit. -/
theorem operandWriteStoresAndMarks : Obligations.OperandWriteStoresAndMarks := by
  intro s r v rest h hb
  refine ⟨_, (step_of_nextWrite h).trans (hostWrite_operand (s := { s with inbox := rest }) r v hb), ?_, fun q hq => ?_,
    fun k => ?_, rfl⟩
  · rw [State.writeOperand_operands, Operands.get_set, if_pos rfl]
  · rw [State.writeOperand_operands, Operands.get_set, if_neg hq]
  · rw [State.writeOperand_valid, operandOffset_slot, getLsbD_setBit _ (Nat.lt_trans r.validBit_lt (by decide))]

/-- Settles O12: the step is `writeStateWord`. -/
theorem stateWordWriteStoresAndMarks : Obligations.StateWordWriteStoresAndMarks := by
  intro s i v rest h hb
  refine ⟨_, (step_of_nextWrite h).trans (hostWrite_state (s := { s with inbox := rest }) i v hb), ?_, fun j hj => ?_,
    fun k => ?_, rfl⟩
  · exact Vector.getElem_set_self _
  · exact Vector.getElem_set_ne i.isLt j.isLt fun h => hj (Fin.ext h.symm)
  · rw [State.writeStateWord_svalid, getLsbD_setBit _ (Nat.lt_trans i.isLt (by decide))]

/-- Settles O13: none of these offsets is CTRL, an operand register or a state word. -/
theorem readOnlyWriteIsRejected : Obligations.ReadOnlyWriteIsRejected :=
  fun s _ v rest h hb hoff => (step_of_nextWrite h).trans
    (hostWrite_of_not_writable (s := { s with inbox := rest }) v hb (not_writable_regOf hoff))

/-! ### Accesses of another form (43_control.md R190) -/

theorem windowOffset_eq_none {p : Params} {addr size : Nat}
    (h : size ≠ 4 ∨ addr < p.regBase ∨ p.regBase + 0x1000 ≤ addr ∨ (addr - p.regBase) % 4 ≠ 0) :
    windowOffset p addr size = none := by
  rw [windowOffset, if_neg (by omega)]

/-- Settles O14: such an access names no offset of the window, so that neither a read nor a write is made. -/
theorem otherAccessFormsAreRefused : Obligations.OtherAccessFormsAreRefused := by
  intro s addr size v rest hform hin
  have hoff : windowOffset s.cfg addr size = none := windowOffset_eq_none hform
  rcases hin with hin | hin
  · simp only [step_of_inbox hin, handle, busRead, hoff]
  · simp only [step_of_inbox hin, handle, busWrite, hoff]

/-! ### Host reads (43_control.md R191) -/

theorem hostRead_operand {r : OperandReg} (h : s.valid.getLsbD r.validBit = true) :
    hostRead (operandOffset r) s = s.answer (s.operands.get r) := by
  simp only [hostRead, regOf_operandOffset, h, if_true]

theorem hostRead_state {i : Fin 16} (hb : s.busy = false) (h : s.svalid.getLsbD i.val = true) :
    hostRead (0x0C0 + 4 * i.val) s = s.answer s.matrix[i] := by
  simp only [hostRead, regOf_state, hb, h, Bool.not_false, Bool.and_self, if_true]

theorem hostRead_ks {i : Fin 16} (hb : s.busy = false) (h : s.valid.getLsbD ksValidBit = true) :
    hostRead (0x100 + 4 * i.val) s = s.answer s.ks[i] := by
  simp only [hostRead, regOf_ks, hb, h, Bool.not_false, Bool.and_self, if_true]

theorem hostRead_reserved (h : 0x028 ≤ off ∧ off ≤ 0x03C ∨ 0x088 ≤ off ∧ off ≤ 0x0BC ∨ 0x140 ≤ off) :
    hostRead off s = s.answer 0 := by
  simp only [hostRead, regOf_eq_reserved h]

/-- A read of STATUS answers it, and one that returns BUSY = 0 synchronises (20_memory.md R76). -/
theorem hostRead_status (s : State) : hostRead 0x004 s =
    { s.answer s.statusWord with unseen := if s.busy = false then [] else s.unseen } := by
  change (if s.busy = true then s.answer s.statusWord else (s.answer s.statusWord).synchronise) = _
  by_cases hb : s.busy = true
  · rw [if_pos hb, if_neg (by simp [hb])]
    rfl
  · rw [if_neg hb, if_pos (by simpa using hb)]
    rfl

theorem operandOffset_ge (r : OperandReg) : 0x040 ≤ operandOffset r := by
  cases r with
  | key i => exact Nat.le_add_right _ _
  | _ => exact of_decide_eq_true rfl

/-- The step of a host read, of any register but STATUS, that is answered `v`. -/
theorem step_of_answer (hread : NextRead s off rest) (hne : off ≠ 0x004)
    (h : hostRead off { s with inbox := rest } = State.answer { s with inbox := rest } v) :
    step s = .next { s with
      inbox := rest, response := .word v, unseen := if off = 0x004 ∧ s.busy = false then [] else s.unseen } := by
  rw [step_of_nextRead hread, h, if_neg fun ⟨hoff, _⟩ => hne hoff]
  rfl

/-- Settles O15: a read of STATUS may synchronise, and a read of any other of these offsets is `answer` of its
register. -/
theorem hostReadReturnsTheRegister : Obligations.HostReadReturnsTheRegister := by
  intro s off rest v hread hv
  rcases hv with ⟨rfl, rfl⟩ | ⟨rfl, rfl⟩ | ⟨rfl, rfl⟩ | ⟨rfl, rfl⟩ | ⟨rfl, rfl⟩ | ⟨rfl, rfl⟩ | ⟨rfl, rfl⟩ | ⟨rfl, rfl⟩ |
    ⟨rfl, rfl⟩ | ⟨rfl, rfl⟩ | ⟨r, rfl, hvalid, rfl⟩ | ⟨i, rfl, hb, hvalid, rfl⟩ | ⟨i, rfl, hb, hvalid, rfl⟩ |
    ⟨hoff, rfl⟩
  case inr.inl =>
    rw [step_of_nextRead hread, hostRead_status]
    simp only [true_and]
    rfl
  -- CTRL, and the read-only registers after STATUS.
  iterate 9 exact step_of_answer hread (by decide) rfl
  · rw [operandOffset_slot] at hvalid
    exact step_of_answer hread (by have := operandOffset_ge r; omega) (hostRead_operand hvalid)
  · exact step_of_answer hread (by omega) (hostRead_state hb hvalid)
  · exact step_of_answer hread (by omega) (hostRead_ks hb hvalid)
  · exact step_of_answer hread (by omega) (hostRead_reserved hoff)

/-! ### The issue of a command (43_control.md R180, R183, R184) -/

/-- Settles O7: the write of a legal word runs its command, that of an Illegal one is reported. -/
theorem stepRunsTheIssuedCommand : Obligations.StepRunsTheIssuedCommand := by
  intro s w rest h hb
  have hissue : step s = issueWord w { s with inbox := rest } :=
    (step_of_nextWrite h).trans (hostWrite_ctrl (s := { s with inbox := rest }) hb w)
  exact ⟨fun i hi => hissue.trans (issueWord_legal _ hi), fun hw => hissue.trans (issueWord_illegal _ hw)⟩

theorem exec_of_ready (hw : decode w = some i) (hp : s.phase = .idle) (hr : Ready i s) :
    exec i s = .next (latchOf i (s.accept w)) :=
  (issueWord_legal s hw).symm.trans (issueWord_accept hp hr hw)

theorem latchOf_of_not_crypt (h : ∀ v, i ≠ .crypt v) (s : State) : latchOf i s = s := by
  cases i with
  | crypt v => exact absurd rfl (h v)
  | _ => rfl

/-- Settles O18: the command is accepted, and only CRYPT latches more. -/
theorem acceptRecordsTheCommand : Obligations.AcceptRecordsTheCommand := by
  intro s w i hw hp hr
  refine ⟨_, exec_of_ready hw hp hr, latchOf_accept_frame i s w, fun hi => ?_⟩
  rw [latchOf_of_not_crypt hi]
  exact ⟨rfl, rfl, rfl, rfl⟩

/-- Settles O19: CRYPT is accepted, and its latches are `latchCrypt`. -/
theorem acceptOfCryptLatchesTheOperands : Obligations.AcceptOfCryptLatchesTheOperands :=
  fun _ _ _ hw hp hr => exec_of_ready hw hp hr

/-! ### The engine's turn (43_control.md R185 to R187) -/

/-- The engine has the turn when the inbox says so, and when no event is left (log entry 1). -/
theorem step_of_engineTurn
    (h : s.inbox = [] ∧ t = s ∨ ∃ rest, s.inbox = .engine :: rest ∧ t = { s with inbox := rest }) :
    step s = engineTurn t := by
  rcases h with ⟨hin, rfl⟩ | ⟨rest, hin, rfl⟩
  · simp only [step, takeTurn, hin]
  · exact step_of_inbox hin

theorem engineTurn_of_command (hp : s.phase ≠ .idle) (hi : commandOf s.op s.var = some i) :
    engineTurn s = exec i s := by
  simp only [engineTurn, if_neg hp, hi]

theorem engineTurn_of_no_command (hp : s.phase ≠ .idle) (hi : commandOf s.op s.var = none) :
    engineTurn s = .fault .noEngineStep := by
  simp only [engineTurn, if_neg hp, hi]

/-- Settles O8: the turn runs the command that `commandOf` names, and stops on an opcode that it has no row for. -/
theorem stepRunsTheEngineCommand : Obligations.StepRunsTheEngineCommand := by
  intro s t hp hturn
  obtain ⟨hphase, hop, hvar⟩ : t.phase = s.phase ∧ t.op = s.op ∧ t.var = s.var := by
    rcases hturn with ⟨-, rfl⟩ | ⟨rest, -, rfl⟩ <;> exact ⟨rfl, rfl, rfl⟩
  rw [step_of_engineTurn hturn, ← hop, ← hvar]
  rw [← hphase] at hp
  have runs {i : Instr} {op : BitVec 4} (hi : commandOf op t.var = some i) (ho : t.op = op) : engineTurn t = exec i t :=
    engineTurn_of_command hp (ho ▸ hi)
  exact ⟨runs rfl, runs rfl, runs rfl, runs rfl, runs rfl,
    fun h => engineTurn_of_no_command hp (commandOf_eq_none_iff.2 h)⟩

theorem exec_nop_of_start (h : s.phase = .start) : exec .nop s = .next s.finish := by
  simp only [exec, execNop, h]

/-- Settles O22: the engine step of NOP is `finish`. -/
theorem nopFinishesAndDoesNothing : Obligations.NopFinishesAndDoesNothing :=
  fun _ h => exec_nop_of_start h

end ControlProofs

end Sys2Proof.Machine

/-! PROOF. The statements about exceptions (60_exceptions.md). An issue reports the first of its checks that fails, so
that one lemma for each check, saying what it reports, gives every clause; and of the moves only the accept of a command, a
rejection, the bus-fault abort and a reset touch a report. -/

namespace Sys2Proof.Machine

section ExceptionProofs

variable {s t : State} {i : Instr} {v : Nat}

/-! ### What a failing check reports (60_exceptions.md R203) -/

theorem variantCheck_of_ge (h : 4 ≤ v) : variantCheck v = some (.variant, BitVec.ofNat 32 v) :=
  if_neg (Nat.not_lt.2 h)

theorem keyCheck_of_missing (h : ¬∀ k, k < 8 → s.valid.getLsbD k = true) :
    keyCheck s = some (.keyLength, ~~~s.valid &&& 0xFF) :=
  if_neg fun hpass => h ((keyCheck_none s).1 (if_pos hpass))

theorem operandCheck_of_missing {required : Word} (h : required &&& ~~~s.valid ≠ 0) :
    operandCheck required s = some (.operandUnset, required &&& ~~~s.valid) :=
  if_neg h

theorem stateCheck_of_missing (h : s.svalid ≠ allStateValid) :
    stateCheck s = some (.stateUnset, ~~~s.svalid &&& 0xFFFF) :=
  if_neg h

theorem overlapCheck_of_ne_none (h : overlapCheck s ≠ none) : overlapCheck s = some (.overlap, 0) := by
  unfold overlapCheck at h ⊢
  split
  · rfl
  · next hno => exact absurd (if_neg hno) h

/-- BUILD_STATE requires no register past the counter's. -/
theorem operandMask_buildState (k : Nat) (h : (0x00000F00 : Word).getLsbD k = true) : k < 12 :=
  (by decide : ∀ k < 32, (0x00000F00 : Word).getLsbD k = true → k < 12) k (BitVec.lt_of_getLsbD h) h

/-- SET_COUNTER requires the two counter registers. -/
theorem operandMask_setCounter (k : Nat) (h : (0x00000C00 : Word).getLsbD k = true) : k = 10 ∨ k = 11 :=
  (by decide : ∀ k < 32, (0x00000C00 : Word).getLsbD k = true → k = 10 ∨ k = 11) k (BitVec.lt_of_getLsbD h) h

/-- The detail of RANGE has a bit for each buffer, set when that buffer passes the top (20_memory.md R71). -/
theorem rangeCheck_of_ne_none (h : rangeCheck s ≠ none) :
    ∃ d : Word, rangeCheck s = some (.range, d) ∧
      (d.getLsbD 0 = true ↔ 2 ^ s.cfg.addrWidth < s.operands.msg.toNat + s.operands.mlen.toNat) ∧
      (d.getLsbD 1 = true ↔ 2 ^ s.cfg.addrWidth < s.operands.ciph.toNat + s.operands.mlen.toNat) ∧
      d.extractLsb' 2 30 = 0 := by
  have detail (m c : Bool) : (0#30 ++ BitVec.ofBool c ++ BitVec.ofBool m).getLsbD 0 = m ∧
      (0#30 ++ BitVec.ofBool c ++ BitVec.ofBool m).getLsbD 1 = c ∧
      (0#30 ++ BitVec.ofBool c ++ BitVec.ofBool m).extractLsb' 2 30 = 0 := by
    revert m c
    decide
  simp only [rangeCheck] at h ⊢
  split
  · obtain ⟨hmsg, hciph, hrest⟩ := detail (decide (2 ^ s.cfg.addrWidth < s.operands.msg.toNat + s.operands.mlen.toNat))
      (decide (2 ^ s.cfg.addrWidth < s.operands.ciph.toNat + s.operands.mlen.toNat))
    exact ⟨_, rfl, by rw [hmsg, decide_eq_true_iff], by rw [hciph, decide_eq_true_iff], hrest⟩
  · next hno => exact absurd (if_neg hno) h

/-- The overlap check fails on two different buffers that share a byte (20_memory.md R70). -/
theorem overlapCheck_ne_none_iff : overlapCheck s ≠ none ↔
    s.operands.msg ≠ s.operands.ciph ∧ ∃ i j, i < s.operands.mlen.toNat ∧ j < s.operands.mlen.toNat ∧
      s.operands.msg.toNat + i = s.operands.ciph.toNat + j := by
  rw [Ne, overlapCheck_none, Classical.not_imp, not_forall]
  simp only [not_not, Span.has_iff, messageRange, cipherRange]
  refine and_congr_right fun _ => ⟨?_, ?_⟩
  · rintro ⟨a, hmsg, hciph⟩
    exact ⟨a - s.operands.msg.toNat, a - s.operands.ciph.toNat, by omega, by omega, by omega⟩
  · rintro ⟨i, j, hi, hj, heq⟩
    exact ⟨s.operands.msg.toNat + i, by omega, by omega⟩

/-! ### The issue of a command whose checks fail (60_exceptions.md R204, R206) -/

/-- An idle block reports the first failing check and changes nothing else. -/
theorem exec_of_failure {k : ErrCode} {d : Word} (hp : s.phase = .idle)
    (h : firstFailure (checksOf i s) = some (k, d)) :
    exec i s = .next { s with err := true, errCode := k, errInfo := d } := by
  rw [exec_idle i hp, State.issue, h]
  rfl

/-- Settles O20: each clause makes one check the first to fail, or none. `h3` and `h4` say that check 3 or 4 of R203
passes. -/
theorem issueReportsTheFirstFailingCheck : Obligations.IssueReportsTheFirstFailingCheck := by
  intro s v hp
  have hkey : (∀ k, k < 8 → s.valid.getLsbD k = true) → keyCheck s = none := (keyCheck_none s).2
  have hvar : v < 4 → variantCheck v = none := (variantCheck_none v).2
  refine ⟨rfl, fun ⟨k, hk, hclear⟩ => ?_, fun h4 h => ?_, fun h => ?_, fun h => ?_, fun h10 h11 => ?_, fun h => ?_,
    fun h3 h => ?_, fun h3 h => ?_⟩
  -- BUILD_STATE
  · have hfail := keyCheck_of_missing fun hall => Bool.false_ne_true (hclear.symm.trans (hall k hk))
    exact exec_of_failure hp (by simp only [checksOf, buildStateChecks, hfail, firstFailure])
  · have hfail := operandCheck_of_missing h
    exact exec_of_failure hp (by simp only [checksOf, buildStateChecks, hkey h4, hfail, firstFailure])
  · have hpass : operandCheck 0x00000F00 s = none :=
      (operandCheck_none _ s).2 fun k hk => h k (operandMask_buildState k hk)
    simp only [Ready, checksOf, buildStateChecks, hkey fun k hk => h k (by omega), hpass, firstFailure]
  -- SET_COUNTER
  · have hfail := operandCheck_of_missing h
    exact exec_of_failure hp (by simp only [checksOf, setCounterChecks, hfail, firstFailure])
  · have hpass : operandCheck 0x00000C00 s = none := (operandCheck_none _ s).2 fun k hk => by
      rcases operandMask_setCounter k hk with rfl | rfl
      exacts [h10, h11]
    simp only [Ready, checksOf, setCounterChecks, hpass, firstFailure]
  -- TRANSFORM
  · exact exec_of_failure hp (by simp only [checksOf, transformChecks, variantCheck_of_ge h, firstFailure])
  · have hfail := stateCheck_of_missing h
    exact exec_of_failure hp (by simp only [checksOf, transformChecks, hvar h3, hfail, firstFailure])
  · simp only [Ready, checksOf, transformChecks, hvar h3, (stateCheck_none s).2 h, firstFailure]

/-- Settles O21: each clause makes one of the five checks the first to fail, or none. `h3` to `h5` say that checks 3 to 5
of R203 pass. -/
theorem cryptReportsTheFirstFailingCheck : Obligations.CryptReportsTheFirstFailingCheck := by
  intro s v hp keys operands top msgOut ciphOut shared
  have hvar : v < 4 → variantCheck v = none := (variantCheck_none v).2
  have hkey : keys → keyCheck s = none := (keyCheck_none s).2
  have hoperand : operands → operandCheck 0x0003F300 s = none := (check_none _).2
  have hrange : rangeCheck s = none ↔ ¬msgOut ∧ ¬ciphOut := by simp only [rangeCheck_none, msgOut, ciphOut, top, not_lt]
  have hoverlap : overlapCheck s ≠ none ↔ shared := overlapCheck_ne_none_iff
  refine ⟨fun h => ?_, fun h3 h => ?_, fun h3 h4 h => ?_, fun h3 h4 h5 h => ?_, fun h3 h4 h5 hm hc h => ?_,
    fun h3 h4 h5 hm hc h => ?_⟩
  · exact exec_crypt_of_badVariant hp (Nat.not_lt.2 h)
  · have hfail := keyCheck_of_missing h
    exact exec_of_failure hp (by simp only [checksOf, cryptChecks, hvar h3, hfail, firstFailure])
  · have hfail := operandCheck_of_missing h
    exact exec_of_failure hp (by simp only [checksOf, cryptChecks, hvar h3, hkey h4, hfail, firstFailure])
  · have hne : rangeCheck s ≠ none := fun hpass => h.elim (hrange.1 hpass).1 (hrange.1 hpass).2
    obtain ⟨d, hfail, hbits⟩ := rangeCheck_of_ne_none hne
    exact ⟨d, exec_of_failure hp
      (by simp only [checksOf, cryptChecks, hvar h3, hkey h4, hoperand h5, hfail, firstFailure]), hbits⟩
  · have hfail := overlapCheck_of_ne_none (hoverlap.2 h)
    exact exec_of_failure hp (by
      simp only [checksOf, cryptChecks, hvar h3, hkey h4, hoperand h5, hrange.2 ⟨hm, hc⟩, hfail, firstFailure])
  · have hpass : overlapCheck s = none := not_not.1 (mt hoverlap.1 h)
    simp only [Ready, checksOf, cryptChecks, hvar h3, hkey h4, hoperand h5, hrange.2 ⟨hm, hc⟩, hpass, firstFailure]

/-! ### What a move does to the report (60_exceptions.md R206 to R208) -/

/-- The report of `s` stands in `t`. -/
structure SameReport (s t : State) : Prop where
  err : t.err = s.err
  errCode : t.errCode = s.errCode
  errInfo : t.errInfo = s.errInfo
  faultAddr : t.faultAddr = s.faultAddr

/-- A move that is no reset keeps the report, accepts a command, or makes a report of its own. -/
theorem Move.report_cases {e : Option Event} (m : Move e s t) (he : e ≠ some .reset) :
    SameReport s t ∨
    (s.phase = .idle ∧ ∃ i, t = latchOf i (s.accept (encode i))) ∨
    (IsWrite e ∧ ∃ k d, k ≠ .noError ∧ k ≠ .bus ∧ t = s.report k d) ∨
    (s.phase = .xor ∧ ∃ d a, t = s.busAbort d a) := by
  cases m with
  | accept i hp => exact .inr (.inl ⟨hp, i, rfl⟩)
  | reject k d hn hb hw => exact .inr (.inr (.inl ⟨hw, k, d, hn, hb, rfl⟩))
  | abort d a hp => exact .inr (.inr (.inr ⟨hp, d, a, rfl⟩))
  | reset h => exact absurd h he
  | setup =>
    rw [State.setupStep_frame]
    exact .inl ⟨rfl, rfl, rfl, rfl⟩
  | byte =>
    rw [State.cipherByte_frame]
    exact .inl ⟨rfl, rfl, rfl, rfl⟩
  | _ => exact .inl ⟨rfl, rfl, rfl, rfl⟩

/-- Settles O59: of the moves, only an accept clears a report, and only a rejection and the abort replace one. -/
theorem reportStaysUntilAcceptOrReset : Obligations.ReportStaysUntilAcceptOrReset := by
  intro s t herr hst hr
  rcases (step_move hst).report_cases (mt nextIsReset_iff.2 hr) with h | ⟨hp, i, rfl⟩ | ⟨hw, k, d, hn, hb, rfl⟩ |
    ⟨hp, d, a, rfl⟩
  · exact ⟨fun ht => absurd (ht.symm.trans (h.err.trans herr)) (by simp),
      fun _ => .inl ⟨h.errCode, h.errInfo, h.faultAddr⟩⟩
  · rw [latchOf_accept_frame]
    exact ⟨fun _ => ⟨hp, rfl, rfl, rfl, rfl, rfl⟩, fun ht => absurd ht (by simp)⟩
  · obtain ⟨addr, size, v, he⟩ := hw
    obtain ⟨rest, hin⟩ := List.head?_eq_some_iff.1 he
    exact ⟨fun ht => absurd ht (by simp), fun _ => .inr (.inl ⟨⟨addr, size, v, rest, hin⟩, hn, hb, rfl⟩)⟩
  · exact ⟨fun ht => absurd (show true = false from ht) (by simp), fun _ => .inr (.inr ⟨hp, rfl, rfl⟩)⟩

/-! ### An idle block (60_exceptions.md R218) -/

theorem engineTurn_of_idle (hp : s.phase = .idle) : engineTurn s = .next s := if_pos hp

/-- Settles O9: in each case the step is the turn of an idle engine. -/
theorem idleEngineKeepsTheState : Obligations.IdleEngineKeepsTheState := by
  intro s hp
  refine ⟨fun hin => ?_, fun rest hin => ?_⟩
  · rw [step_of_engineTurn (.inl ⟨hin, rfl⟩), engineTurn_of_idle hp]
  · rw [step_of_engineTurn (.inr ⟨rest, hin, rfl⟩), engineTurn_of_idle (s := { s with inbox := rest }) hp]

end ExceptionProofs

end Sys2Proof.Machine

/-! PROOF. The statements about reset (70_reset_and_hazards.md). The reset input leaves the block as it is right after
reset but for the parameters, the memory and the model's own fields, so its registers hold the values of `State.reset`. -/

namespace Sys2Proof.Machine

/-! ### The block right after reset (R231) -/

/-- Settles O52: each value is one that `State.reset` gives, and the two words are read off its fields. -/
theorem resetLeavesTheStatedValues : Obligations.ResetLeavesTheStatedValues :=
  ⟨rfl, by decide, rfl, rfl, rfl, rfl, rfl, rfl, by decide⟩

theorem sound_reset : Sound State.reset where
  params := by decide
  memory := State.reset_mem_wf
  space := rfl
  report := by decide
  detail := fun _ => rfl
  validReserved := by decide
  svalidReserved := by decide

/-- Settles O54: the block after reset is idle, so that the invariant speaks of no running command. -/
theorem resetMeetsTheInvariant : Obligations.ResetMeetsTheInvariant :=
  sound_reset.inv_of_idle rfl rfl

/-! ### The reset input (R230, R232) -/

theorem State.applyReset_mem_of_not_crypt (s : State) (h : s.cryptBusy = false) : s.applyReset.mem = s.mem := by
  simp [State.applyReset, h]

/-- The reset of a running CRYPT makes its cipher bytes unspecified (R232). -/
theorem State.applyReset_mem_of_crypt (s : State) (h : s.cryptBusy = true) :
    s.applyReset.mem = s.mem.scramble s.lCiph.toNat s.lMlen.toNat s.draws := by
  simp [State.applyReset, h]

theorem State.byteAt_applyReset_of_crypt (s : State) (h : s.cryptBusy = true) (a : Nat)
    (ha : a < s.lCiph.toNat ∨ s.lCiph.toNat + s.lMlen.toNat ≤ a) :
    s.applyReset.mem.byteAt a = s.mem.byteAt a := by
  rw [s.applyReset_mem_of_crypt h, Memory.byteAt_scramble_other _ _ _ _ ha]

/-- Settles O53: the step is `applyReset`, whose registers are those of `State.reset` in every phase, so that O52 gives
their values. -/
theorem resetEndsTheCommand : Obligations.ResetEndsTheCommand := by
  intro s rest hin
  let u : State := { s with inbox := rest }
  have hstep : step s = .next u.applyReset := step_of_inbox hin
  obtain ⟨hctrl, hstatus, hinfo, haddr, hprogress, hvalid, hsvalid, hphase, -⟩ := resetLeavesTheStatedValues
  exact ⟨u.applyReset, hstep, hctrl, hstatus, hinfo, haddr, hprogress, hvalid, hsvalid, hphase, u.applyReset_cfg,
    u.applyReset_mem_of_not_crypt, u.byteAt_applyReset_of_crypt⟩

end Sys2Proof.Machine
